-- ==== Sys2Proof/Word.lean ====
section
/-! DEFINITION. The word types of the machine and their plainest arithmetic (spec/00_scope.md R14, R16 to R18). -/

namespace Sys2Proof

/-- A 64-bit register or datapath value (R14, R17). -/
abbrev Word := BitVec 64

/-- An instruction word (R14, R111). -/
abbrev Word32 := BitVec 32

/-- A byte of memory (R80). -/
abbrev Byte := BitVec 8

/-- A 5-bit register index (R14, R30). -/
abbrev RegIx := BitVec 5

/-- R18: `sext32(v) = sext_64(v[31:0])`. -/
def sext32 (v : Word) : Word := (v.setWidth 32).signExtend 64

/-- A one-bit signal as a 64-bit value, `zext_64` of one bit (R193, R228). -/
def boolWord (b : Bool) : Word := if b then 1 else 0

end Sys2Proof
end

