-- ==== Sys2Proof/Config.lean ====
section
/-! DEFINITION. The implementation parameters of the hardware (spec/00_scope.md R10 to R15). They are plain data that
an instance carries; no instruction and no port changes them. The spec leaves no value of an instruction open
(log entry 13), so there is no opaque constant here. -/

namespace Sys2Proof

/-- R10: the instruction set an instance executes. -/
inductive Isa where
  | mips64l
  | rv64l
deriving DecidableEq, Repr

/-- R12: the byte order of every multi-byte access, data and fetch alike. -/
inductive ByteOrder where
  | big
  | little
deriving DecidableEq, Repr

/-- R13: what the coprocessor does for the operations that have no computation defined by the source. -/
inductive FpuCompletion where
  | report
  | ieee
deriving DecidableEq, Repr

/-- The four parameters of R10 to R13. -/
structure Config where
  /-- `ISA` (R10). -/
  isa : Isa
  /-- `MEM_CAPACITY` (R11), the number of bytes of the memory. -/
  memCapacity : Nat
  /-- `BYTE_ORDER` (R12). -/
  byteOrder : ByteOrder
  /-- `FPU_COMPLETION` (R13). -/
  fpuCompletion : FpuCompletion
deriving DecidableEq, Repr

/-- R11: `MEM_CAPACITY` is a multiple of 8 and at least 8; R40: it is below `2^64`. The other parameters are in their
sets by their types (spec/93_implementation_defined.md I51). -/
abbrev Config.wf (c : Config) : Prop :=
  c.memCapacity % 8 = 0 ∧ 8 ≤ c.memCapacity ∧ c.memCapacity < 2 ^ 64

/-- The instance that `State.reset` describes: the spec's defaults for the byte order and the completion, the capacity
of its test vectors (R11 to R13) and, of the two instruction sets, the one R10 names first.
DESIGN CHOICE (log entry 2). -/
def Config.default : Config :=
  { isa := .mips64l, memCapacity := 65536, byteOrder := .big, fpuCompletion := .report }

/-- R15: the index of the stack-pointer register. -/
def Isa.spIndex : Isa → RegIx
  | .mips64l => 29
  | .rv64l => 2

/-- R15: the fixed link register of call-type instructions (`reg_dst = Link`, used by `MIPS64L` only). -/
def linkIndex : RegIx := 31

end Sys2Proof
end

