-- ==== Sys2Proof/Machine/Signals.lean ====
section
/-! DEFINITION. The control signals of spec/40_datapath.md: the main unit's vector (R160), the coprocessor's vector (R175)
and the inert vectors (R161, R176). A vector is written as the fields that differ from the inert one (R163), which are the
defaults of the structures here. -/

namespace Sys2Proof.Machine

/-- R160: operand-1 source (R165). -/
inductive Op1Src where
  | rs1 | rs2 | pc | pcPlus4
deriving DecidableEq, Repr

/-- R160: operand-2 source. -/
inductive Op2Src where
  | rs2 | imm
deriving DecidableEq, Repr

/-- R160, R120: the immediate form. -/
inductive ImmForm where
  | iSigned | iUnsigned | upper | s | b | j
deriving DecidableEq, Repr

/-- R190 to R198: the operations of the integer ALU. The immediate shifts carry their amount inline (R164); its width keeps
it in the range R194 gives. -/
inductive AluOp where
  | aluNop | add64 | sub64 | add32 | sub32
  | and | or | xor | nor
  | slt | sltu
  | sll64 (n : BitVec 6) | srl64 (n : BitVec 6) | sra64 (n : BitVec 6)
  | sll32 (n : BitVec 5) | srl32 (n : BitVec 5) | sra32 (n : BitVec 5)
  | sllV64 | srlV64 | sraV64 | sllV32 | srlV32 | sraV32
  | mul64 | mulh64 | mulhsu64 | mulhu64 | mul32 | mulh32 | mulhu32
  | div64 | rem64 | divu64 | remu64
  | div32 | rem32 | divu32 | remu32
deriving DecidableEq, Repr

/-- R160, R166: the branch kind. -/
inductive BranchKind where
  | noBranch | beq | bne | blt | bge | bltu | bgeu
deriving DecidableEq, Repr

/-- R160, R223: the jump kind. -/
inductive JumpKind where
  | noJump | jRegion | jReg | jAlu | jAluClr0
deriving DecidableEq, Repr

/-- R160, R167: the load width and extension. -/
inductive MemReadKind where
  | noRead | b | bu | h | hu | w | wu | d
deriving DecidableEq, Repr

/-- R160, R168: the store width. -/
inductive MemWriteKind where
  | noWrite | b | h | w | d
deriving DecidableEq, Repr

/-- R160, R232: the source of the stored value. -/
inductive MemWriteSrc where
  | mainUnit | copData
deriving DecidableEq, Repr

/-- R160, R237: the write-back source. -/
inductive WbSrc where
  | alu | mem | imm | pcPlus4
deriving DecidableEq, Repr

/-- R160, R236: the register-destination selector. -/
inductive RegDst where
  | rs1Slot | rs2Slot | rdSlot | link
deriving DecidableEq, Repr

/-- R160: the main unit's control vector. A field's default is the inert one (R161). -/
structure ControlSignals where
  op1Src : Op1Src := .rs1
  op2Src : Op2Src := .rs2
  immForm : ImmForm := .iSigned
  aluOp : AluOp := .aluNop
  branch : BranchKind := .noBranch
  jump : JumpKind := .noJump
  memRead : MemReadKind := .noRead
  memWrite : MemWriteKind := .noWrite
  memWriteSrc : MemWriteSrc := .mainUnit
  wbSrc : WbSrc := .alu
  regDst : RegDst := .rdSlot
  regWrite : Bool := false
  halt : Bool := false
deriving DecidableEq, Repr

/-- R175: the coprocessor's ALU operation. -/
inductive FpuOp where
  | fpuNone | fAdd | fSub | fMul | fDiv | fSqrt | fMin | fMax | fSgnj | fSgnjn | fSgnjx | fClass
  | fMadd | fMsub | fNmsub | fNmadd
deriving DecidableEq, Repr

/-- R175: the comparator's use. -/
inductive CmpOp where
  | cmpNone | cmpEq | cmpLt | cmpLe
deriving DecidableEq, Repr

/-- R175, R640: the register width. -/
inductive FpWidth where
  | word | double
deriving DecidableEq, Repr

/-- R175, R644, R645: the rounding mode. -/
inductive Round where
  | rne | rtz | rdn | rup | rmm
deriving DecidableEq, Repr

/-- R175, R228, R233: the source of the Data register. -/
inductive DataSrc where
  | mainReg | fpA | fpB | memData | cmpResult | fpuResult
deriving DecidableEq, Repr

/-- R175, R239: the source of a floating-point register write. -/
inductive FpuWbSrc where
  | fromFpuAlu | fromData
deriving DecidableEq, Repr

/-- R175, R119: the floating-point destination slot. -/
inductive FpuRegDst where
  | fdSlot | fsSlot | ftSlot
deriving DecidableEq, Repr

/-- R175, R225: the coprocessor's branch request. -/
inductive FpuBranch where
  | noFpuBranch | onTrue | onFalse
deriving DecidableEq, Repr

/-- R175: the coprocessor's control vector. A field's default is the inert one (R176). -/
structure FpuSignals where
  fpuOp : FpuOp := .fpuNone
  cmpOp : CmpOp := .cmpNone
  width : FpWidth := .word
  round : Round := .rne
  dataSrc : DataSrc := .mainReg
  dataWrite : Bool := false
  fpuWbSrc : FpuWbSrc := .fromFpuAlu
  fpuRegDst : FpuRegDst := .fdSlot
  fpuRegWrite : Bool := false
  ccWrite : Bool := false
  fpuBranch : FpuBranch := .noFpuBranch
deriving DecidableEq, Repr

/-- R161: the main unit's inert vector. -/
def cs0 : ControlSignals := {}

/-- R176: the coprocessor's inert vector. -/
def fs0 : FpuSignals := {}

/-- The two vectors an instruction gets, one from each decoder (R162, R177). -/
structure Vectors where
  cs : ControlSignals := cs0
  fs : FpuSignals := fs0
deriving DecidableEq, Repr

/-- The vectors of a word that neither decoder recognises beyond its primary opcode (R125 case 3). -/
def inertVectors : Vectors := {}

end Sys2Proof.Machine
end

