-- ==== Sys2Proof/Record.lean ====
section
/-! DEFINITION. The decoded Instruction of spec/30_encoding.md R110: a tagged union over the format variants of the two
instruction sets, each field the raw bits of its range. -/

namespace Sys2Proof

/-- R110: the format variants. `MIPS64L` produces three (R112, R113) and `RV64L` all seven (R114); the two sets' variants
of one name have different fields, so they are different constructors here. Fields stand most significant first. -/
inductive Record where
  /-- `RType` of `MIPS64L` (R112). -/
  | mipsR (opcode : BitVec 6) (rs rt rd : RegIx) (shamt : BitVec 5) (funct : BitVec 6)
  /-- `IType` of `MIPS64L` (R112). -/
  | mipsI (opcode : BitVec 6) (rs rt : RegIx) (imm16 : BitVec 16)
  /-- `JType` of `MIPS64L` (R112). -/
  | mipsJ (opcode : BitVec 6) (index : BitVec 26)
  /-- `RType` of `RV64L` (R114). -/
  | rvR (funct7 : BitVec 7) (rs2 rs1 : RegIx) (funct3 : BitVec 3) (rd : RegIx) (opcode : BitVec 7)
  /-- `IType` of `RV64L` (R114). -/
  | rvI (imm12 : BitVec 12) (rs1 : RegIx) (funct3 : BitVec 3) (rd : RegIx) (opcode : BitVec 7)
  /-- `SType` of `RV64L` (R114). -/
  | rvS (imm7 : BitVec 7) (rs2 rs1 : RegIx) (funct3 : BitVec 3) (imm5 : BitVec 5) (opcode : BitVec 7)
  /-- `BType` of `RV64L` (R114). -/
  | rvB (imm7 : BitVec 7) (rs2 rs1 : RegIx) (funct3 : BitVec 3) (imm5 : BitVec 5) (opcode : BitVec 7)
  /-- `UType` of `RV64L` (R114). -/
  | rvU (imm20 : BitVec 20) (rd : RegIx) (opcode : BitVec 7)
  /-- `JType` of `RV64L` (R114). -/
  | rvJ (imm20 : BitVec 20) (rd : RegIx) (opcode : BitVec 7)
  /-- `R4Type` of `RV64L` (R114). -/
  | rvR4 (rs3 : RegIx) (funct2 : BitVec 2) (rs2 rs1 : RegIx) (funct3 : BitVec 3) (rd : RegIx) (opcode : BitVec 7)
deriving DecidableEq, Repr

end Sys2Proof
end

