-- ==== Sys2Proof/Syntax.lean ====
section
/-! DEFINITION. The instructions of both instruction sets, one constructor per row of spec/opcode_table.json: 93 of `MIPS64L`
(R130) and 107 of `RV64L` (R140). A constructor carries the raw bits of every field its encoding does not fix, the
unexamined fields of R126 among them, under the names the spec's encoding gives them, most significant field first. -/

namespace Sys2Proof

/-- An instruction of either set. A name is the set (`mips`, `rv`) followed by the mnemonic of the table. -/
inductive Instr where
  /-- `add rd, rs, rt` (R301) -/
  | mipsAdd (rs rt rd : RegIx) (shamt : BitVec 5)
  /-- `addu rd, rs, rt` (R302) -/
  | mipsAddu (rs rt rd : RegIx) (shamt : BitVec 5)
  /-- `sub rd, rs, rt` (R303) -/
  | mipsSub (rs rt rd : RegIx) (shamt : BitVec 5)
  /-- `subu rd, rs, rt` (R304) -/
  | mipsSubu (rs rt rd : RegIx) (shamt : BitVec 5)
  /-- `and rd, rs, rt` (R305) -/
  | mipsAnd (rs rt rd : RegIx) (shamt : BitVec 5)
  /-- `or rd, rs, rt` (R306) -/
  | mipsOr (rs rt rd : RegIx) (shamt : BitVec 5)
  /-- `xor rd, rs, rt` (R307) -/
  | mipsXor (rs rt rd : RegIx) (shamt : BitVec 5)
  /-- `nor rd, rs, rt` (R308) -/
  | mipsNor (rs rt rd : RegIx) (shamt : BitVec 5)
  /-- `slt rd, rs, rt` (R309) -/
  | mipsSlt (rs rt rd : RegIx) (shamt : BitVec 5)
  /-- `sltu rd, rs, rt` (R310) -/
  | mipsSltu (rs rt rd : RegIx) (shamt : BitVec 5)
  /-- `dadd rd, rs, rt` (R311) -/
  | mipsDadd (rs rt rd : RegIx) (shamt : BitVec 5)
  /-- `daddu rd, rs, rt` (R312) -/
  | mipsDaddu (rs rt rd : RegIx) (shamt : BitVec 5)
  /-- `dsub rd, rs, rt` (R313) -/
  | mipsDsub (rs rt rd : RegIx) (shamt : BitVec 5)
  /-- `dsubu rd, rs, rt` (R314) -/
  | mipsDsubu (rs rt rd : RegIx) (shamt : BitVec 5)
  /-- `sll rd, rt, sa` (R315) -/
  | mipsSll (rs rt rd : RegIx) (sa : BitVec 5)
  /-- `srl rd, rt, sa` (R316) -/
  | mipsSrl (rs rt rd : RegIx) (sa : BitVec 5)
  /-- `sra rd, rt, sa` (R317) -/
  | mipsSra (rs rt rd : RegIx) (sa : BitVec 5)
  /-- `dsll rd, rt, sa` (R318) -/
  | mipsDsll (rs rt rd : RegIx) (sa : BitVec 5)
  /-- `dsrl rd, rt, sa` (R319) -/
  | mipsDsrl (rs rt rd : RegIx) (sa : BitVec 5)
  /-- `dsra rd, rt, sa` (R320) -/
  | mipsDsra (rs rt rd : RegIx) (sa : BitVec 5)
  /-- `dsll32 rd, rt, sa` (R321) -/
  | mipsDsll32 (rs rt rd : RegIx) (sa : BitVec 5)
  /-- `dsrl32 rd, rt, sa` (R322) -/
  | mipsDsrl32 (rs rt rd : RegIx) (sa : BitVec 5)
  /-- `dsra32 rd, rt, sa` (R323) -/
  | mipsDsra32 (rs rt rd : RegIx) (sa : BitVec 5)
  /-- `mul rd, rs, rt` (R324) -/
  | mipsMul (rs rt rd : RegIx)
  /-- `muh rd, rs, rt` (R325) -/
  | mipsMuh (rs rt rd : RegIx)
  /-- `mulu rd, rs, rt` (R326) -/
  | mipsMulu (rs rt rd : RegIx)
  /-- `muhu rd, rs, rt` (R327) -/
  | mipsMuhu (rs rt rd : RegIx)
  /-- `div rd, rs, rt` (R328) -/
  | mipsDiv (rs rt rd : RegIx)
  /-- `mod rd, rs, rt` (R329) -/
  | mipsMod (rs rt rd : RegIx)
  /-- `divu rd, rs, rt` (R330) -/
  | mipsDivu (rs rt rd : RegIx)
  /-- `modu rd, rs, rt` (R331) -/
  | mipsModu (rs rt rd : RegIx)
  /-- `dmul rd, rs, rt` (R332) -/
  | mipsDmul (rs rt rd : RegIx)
  /-- `dmuh rd, rs, rt` (R333) -/
  | mipsDmuh (rs rt rd : RegIx)
  /-- `dmulu rd, rs, rt` (R334) -/
  | mipsDmulu (rs rt rd : RegIx)
  /-- `dmuhu rd, rs, rt` (R335) -/
  | mipsDmuhu (rs rt rd : RegIx)
  /-- `ddiv rd, rs, rt` (R336) -/
  | mipsDdiv (rs rt rd : RegIx)
  /-- `dmod rd, rs, rt` (R337) -/
  | mipsDmod (rs rt rd : RegIx)
  /-- `ddivu rd, rs, rt` (R338) -/
  | mipsDdivu (rs rt rd : RegIx)
  /-- `dmodu rd, rs, rt` (R339) -/
  | mipsDmodu (rs rt rd : RegIx)
  /-- `addi rt, rs, imm` (R340) -/
  | mipsAddi (rs rt : RegIx) (imm16 : BitVec 16)
  /-- `addiu rt, rs, imm` (R341) -/
  | mipsAddiu (rs rt : RegIx) (imm16 : BitVec 16)
  /-- `slti rt, rs, imm` (R342) -/
  | mipsSlti (rs rt : RegIx) (imm16 : BitVec 16)
  /-- `sltiu rt, rs, imm` (R343) -/
  | mipsSltiu (rs rt : RegIx) (imm16 : BitVec 16)
  /-- `andi rt, rs, imm` (R344) -/
  | mipsAndi (rs rt : RegIx) (imm16 : BitVec 16)
  /-- `ori rt, rs, imm` (R345) -/
  | mipsOri (rs rt : RegIx) (imm16 : BitVec 16)
  /-- `xori rt, rs, imm` (R346) -/
  | mipsXori (rs rt : RegIx) (imm16 : BitVec 16)
  /-- `lui rt, imm` (R347) -/
  | mipsLui (rs rt : RegIx) (imm16 : BitVec 16)
  /-- `daddi rt, rs, imm` (R348) -/
  | mipsDaddi (rs rt : RegIx) (imm16 : BitVec 16)
  /-- `daddiu rt, rs, imm` (R349) -/
  | mipsDaddiu (rs rt : RegIx) (imm16 : BitVec 16)
  /-- `lb rt, offset(base)` (R361) -/
  | mipsLb (base rt : RegIx) (imm16 : BitVec 16)
  /-- `lbu rt, offset(base)` (R362) -/
  | mipsLbu (base rt : RegIx) (imm16 : BitVec 16)
  /-- `lh rt, offset(base)` (R363) -/
  | mipsLh (base rt : RegIx) (imm16 : BitVec 16)
  /-- `lhu rt, offset(base)` (R364) -/
  | mipsLhu (base rt : RegIx) (imm16 : BitVec 16)
  /-- `lw rt, offset(base)` (R365) -/
  | mipsLw (base rt : RegIx) (imm16 : BitVec 16)
  /-- `lwu rt, offset(base)` (R366) -/
  | mipsLwu (base rt : RegIx) (imm16 : BitVec 16)
  /-- `ld rt, offset(base)` (R367) -/
  | mipsLd (base rt : RegIx) (imm16 : BitVec 16)
  /-- `sb rt, offset(base)` (R368) -/
  | mipsSb (base rt : RegIx) (imm16 : BitVec 16)
  /-- `sh rt, offset(base)` (R369) -/
  | mipsSh (base rt : RegIx) (imm16 : BitVec 16)
  /-- `sw rt, offset(base)` (R370) -/
  | mipsSw (base rt : RegIx) (imm16 : BitVec 16)
  /-- `sd rt, offset(base)` (R371) -/
  | mipsSd (base rt : RegIx) (imm16 : BitVec 16)
  /-- `beq rs, rt, offset` (R372) -/
  | mipsBeq (rs rt : RegIx) (imm16 : BitVec 16)
  /-- `bne rs, rt, offset` (R373) -/
  | mipsBne (rs rt : RegIx) (imm16 : BitVec 16)
  /-- `j target` (R374) -/
  | mipsJ (index : BitVec 26)
  /-- `jal target` (R375) -/
  | mipsJal (index : BitVec 26)
  /-- `jr rs` (R376) -/
  | mipsJr (rs rt rd : RegIx) (shamt : BitVec 5)
  /-- `jalr rd, rs` (R377) -/
  | mipsJalr (rs rt rd : RegIx) (shamt : BitVec 5)
  /-- `syscall` (R378) -/
  | mipsSyscall (rs rt rd : RegIx) (shamt : BitVec 5)
  /-- `lwc1 ft, offset(base)` (R401) -/
  | mipsLwc1 (base ft : RegIx) (imm16 : BitVec 16)
  /-- `ldc1 ft, offset(base)` (R402) -/
  | mipsLdc1 (base ft : RegIx) (imm16 : BitVec 16)
  /-- `swc1 ft, offset(base)` (R403) -/
  | mipsSwc1 (base ft : RegIx) (imm16 : BitVec 16)
  /-- `sdc1 ft, offset(base)` (R404) -/
  | mipsSdc1 (base ft : RegIx) (imm16 : BitVec 16)
  /-- `mfc1 rt, fs` (R405) -/
  | mipsMfc1 (rt fs : RegIx) (shamt : BitVec 5) (funct : BitVec 6)
  /-- `dmfc1 rt, fs` (R406) -/
  | mipsDmfc1 (rt fs : RegIx) (shamt : BitVec 5) (funct : BitVec 6)
  /-- `mtc1 rt, fs` (R407) -/
  | mipsMtc1 (rt fs : RegIx) (shamt : BitVec 5) (funct : BitVec 6)
  /-- `dmtc1 rt, fs` (R408) -/
  | mipsDmtc1 (rt fs : RegIx) (shamt : BitVec 5) (funct : BitVec 6)
  /-- `bc1f offset` (R409) -/
  | mipsBc1f (imm16 : BitVec 16)
  /-- `bc1t offset` (R410) -/
  | mipsBc1t (imm16 : BitVec 16)
  /-- `add.s fd, fs, ft` (R411) -/
  | mipsAddS (ft fs fd : RegIx)
  /-- `add.d fd, fs, ft` (R412) -/
  | mipsAddD (ft fs fd : RegIx)
  /-- `sub.s fd, fs, ft` (R413) -/
  | mipsSubS (ft fs fd : RegIx)
  /-- `sub.d fd, fs, ft` (R414) -/
  | mipsSubD (ft fs fd : RegIx)
  /-- `mul.s fd, fs, ft` (R415) -/
  | mipsMulS (ft fs fd : RegIx)
  /-- `mul.d fd, fs, ft` (R416) -/
  | mipsMulD (ft fs fd : RegIx)
  /-- `div.s fd, fs, ft` (R417) -/
  | mipsDivS (ft fs fd : RegIx)
  /-- `div.d fd, fs, ft` (R418) -/
  | mipsDivD (ft fs fd : RegIx)
  /-- `sqrt.s fd, fs` (R419) -/
  | mipsSqrtS (fs fd : RegIx)
  /-- `sqrt.d fd, fs` (R420) -/
  | mipsSqrtD (fs fd : RegIx)
  /-- `c.eq.s fs, ft` (R421) -/
  | mipsCEqS (ft fs : RegIx)
  /-- `c.eq.d fs, ft` (R422) -/
  | mipsCEqD (ft fs : RegIx)
  /-- `c.lt.s fs, ft` (R423) -/
  | mipsCLtS (ft fs : RegIx)
  /-- `c.lt.d fs, ft` (R424) -/
  | mipsCLtD (ft fs : RegIx)
  /-- `c.le.s fs, ft` (R425) -/
  | mipsCLeS (ft fs : RegIx)
  /-- `c.le.d fs, ft` (R426) -/
  | mipsCLeD (ft fs : RegIx)
  /-- `lui rd, imm20` (R451) -/
  | rvLui (imm20 : BitVec 20) (rd : RegIx)
  /-- `auipc rd, imm20` (R452) -/
  | rvAuipc (imm20 : BitVec 20) (rd : RegIx)
  /-- `addi rd, rs1, imm` (R453) -/
  | rvAddi (imm12 : BitVec 12) (rs1 rd : RegIx)
  /-- `slti rd, rs1, imm` (R454) -/
  | rvSlti (imm12 : BitVec 12) (rs1 rd : RegIx)
  /-- `sltiu rd, rs1, imm` (R455) -/
  | rvSltiu (imm12 : BitVec 12) (rs1 rd : RegIx)
  /-- `xori rd, rs1, imm` (R456) -/
  | rvXori (imm12 : BitVec 12) (rs1 rd : RegIx)
  /-- `ori rd, rs1, imm` (R457) -/
  | rvOri (imm12 : BitVec 12) (rs1 rd : RegIx)
  /-- `andi rd, rs1, imm` (R458) -/
  | rvAndi (imm12 : BitVec 12) (rs1 rd : RegIx)
  /-- `slli rd, rs1, shamt` (R459) -/
  | rvSlli (shamt : BitVec 6) (rs1 rd : RegIx)
  /-- `srli rd, rs1, shamt` (R460) -/
  | rvSrli (shamt : BitVec 6) (rs1 rd : RegIx)
  /-- `srai rd, rs1, shamt` (R461) -/
  | rvSrai (shamt : BitVec 6) (rs1 rd : RegIx)
  /-- `addiw rd, rs1, imm` (R462) -/
  | rvAddiw (imm12 : BitVec 12) (rs1 rd : RegIx)
  /-- `slliw rd, rs1, shamt` (R463) -/
  | rvSlliw (shamt : BitVec 5) (rs1 rd : RegIx)
  /-- `srliw rd, rs1, shamt` (R464) -/
  | rvSrliw (shamt : BitVec 5) (rs1 rd : RegIx)
  /-- `sraiw rd, rs1, shamt` (R465) -/
  | rvSraiw (shamt : BitVec 5) (rs1 rd : RegIx)
  /-- `add rd, rs1, rs2` (R466) -/
  | rvAdd (rs2 rs1 rd : RegIx)
  /-- `sub rd, rs1, rs2` (R467) -/
  | rvSub (rs2 rs1 rd : RegIx)
  /-- `sll rd, rs1, rs2` (R468) -/
  | rvSll (rs2 rs1 rd : RegIx)
  /-- `slt rd, rs1, rs2` (R469) -/
  | rvSlt (rs2 rs1 rd : RegIx)
  /-- `sltu rd, rs1, rs2` (R470) -/
  | rvSltu (rs2 rs1 rd : RegIx)
  /-- `xor rd, rs1, rs2` (R471) -/
  | rvXor (rs2 rs1 rd : RegIx)
  /-- `srl rd, rs1, rs2` (R472) -/
  | rvSrl (rs2 rs1 rd : RegIx)
  /-- `sra rd, rs1, rs2` (R473) -/
  | rvSra (rs2 rs1 rd : RegIx)
  /-- `or rd, rs1, rs2` (R474) -/
  | rvOr (rs2 rs1 rd : RegIx)
  /-- `and rd, rs1, rs2` (R475) -/
  | rvAnd (rs2 rs1 rd : RegIx)
  /-- `addw rd, rs1, rs2` (R476) -/
  | rvAddw (rs2 rs1 rd : RegIx)
  /-- `subw rd, rs1, rs2` (R477) -/
  | rvSubw (rs2 rs1 rd : RegIx)
  /-- `sllw rd, rs1, rs2` (R478) -/
  | rvSllw (rs2 rs1 rd : RegIx)
  /-- `srlw rd, rs1, rs2` (R479) -/
  | rvSrlw (rs2 rs1 rd : RegIx)
  /-- `sraw rd, rs1, rs2` (R480) -/
  | rvSraw (rs2 rs1 rd : RegIx)
  /-- `mul rd, rs1, rs2` (R481) -/
  | rvMul (rs2 rs1 rd : RegIx)
  /-- `mulh rd, rs1, rs2` (R482) -/
  | rvMulh (rs2 rs1 rd : RegIx)
  /-- `mulhsu rd, rs1, rs2` (R483) -/
  | rvMulhsu (rs2 rs1 rd : RegIx)
  /-- `mulhu rd, rs1, rs2` (R484) -/
  | rvMulhu (rs2 rs1 rd : RegIx)
  /-- `div rd, rs1, rs2` (R485) -/
  | rvDiv (rs2 rs1 rd : RegIx)
  /-- `divu rd, rs1, rs2` (R486) -/
  | rvDivu (rs2 rs1 rd : RegIx)
  /-- `rem rd, rs1, rs2` (R487) -/
  | rvRem (rs2 rs1 rd : RegIx)
  /-- `remu rd, rs1, rs2` (R488) -/
  | rvRemu (rs2 rs1 rd : RegIx)
  /-- `mulw rd, rs1, rs2` (R489) -/
  | rvMulw (rs2 rs1 rd : RegIx)
  /-- `divw rd, rs1, rs2` (R490) -/
  | rvDivw (rs2 rs1 rd : RegIx)
  /-- `divuw rd, rs1, rs2` (R491) -/
  | rvDivuw (rs2 rs1 rd : RegIx)
  /-- `remw rd, rs1, rs2` (R492) -/
  | rvRemw (rs2 rs1 rd : RegIx)
  /-- `remuw rd, rs1, rs2` (R493) -/
  | rvRemuw (rs2 rs1 rd : RegIx)
  /-- `lb rd, imm(rs1)` (R531) -/
  | rvLb (imm12 : BitVec 12) (rs1 rd : RegIx)
  /-- `lh rd, imm(rs1)` (R532) -/
  | rvLh (imm12 : BitVec 12) (rs1 rd : RegIx)
  /-- `lw rd, imm(rs1)` (R533) -/
  | rvLw (imm12 : BitVec 12) (rs1 rd : RegIx)
  /-- `ld rd, imm(rs1)` (R534) -/
  | rvLd (imm12 : BitVec 12) (rs1 rd : RegIx)
  /-- `lbu rd, imm(rs1)` (R535) -/
  | rvLbu (imm12 : BitVec 12) (rs1 rd : RegIx)
  /-- `lhu rd, imm(rs1)` (R536) -/
  | rvLhu (imm12 : BitVec 12) (rs1 rd : RegIx)
  /-- `lwu rd, imm(rs1)` (R537) -/
  | rvLwu (imm12 : BitVec 12) (rs1 rd : RegIx)
  /-- `sb rs2, imm(rs1)` (R538) -/
  | rvSb (imm7 : BitVec 7) (rs2 rs1 : RegIx) (imm5 : BitVec 5)
  /-- `sh rs2, imm(rs1)` (R539) -/
  | rvSh (imm7 : BitVec 7) (rs2 rs1 : RegIx) (imm5 : BitVec 5)
  /-- `sw rs2, imm(rs1)` (R540) -/
  | rvSw (imm7 : BitVec 7) (rs2 rs1 : RegIx) (imm5 : BitVec 5)
  /-- `sd rs2, imm(rs1)` (R541) -/
  | rvSd (imm7 : BitVec 7) (rs2 rs1 : RegIx) (imm5 : BitVec 5)
  /-- `beq rs1, rs2, offset` (R542) -/
  | rvBeq (imm7 : BitVec 7) (rs2 rs1 : RegIx) (imm5 : BitVec 5)
  /-- `bne rs1, rs2, offset` (R543) -/
  | rvBne (imm7 : BitVec 7) (rs2 rs1 : RegIx) (imm5 : BitVec 5)
  /-- `blt rs1, rs2, offset` (R544) -/
  | rvBlt (imm7 : BitVec 7) (rs2 rs1 : RegIx) (imm5 : BitVec 5)
  /-- `bge rs1, rs2, offset` (R545) -/
  | rvBge (imm7 : BitVec 7) (rs2 rs1 : RegIx) (imm5 : BitVec 5)
  /-- `bltu rs1, rs2, offset` (R546) -/
  | rvBltu (imm7 : BitVec 7) (rs2 rs1 : RegIx) (imm5 : BitVec 5)
  /-- `bgeu rs1, rs2, offset` (R547) -/
  | rvBgeu (imm7 : BitVec 7) (rs2 rs1 : RegIx) (imm5 : BitVec 5)
  /-- `jal rd, offset` (R548) -/
  | rvJal (imm20 : BitVec 20) (rd : RegIx)
  /-- `jalr rd, imm(rs1)` (R549) -/
  | rvJalr (imm12 : BitVec 12) (rs1 rd : RegIx)
  /-- `ecall` (R550) -/
  | rvEcall (rs1 rd : RegIx)
  /-- `flw fd, imm(rs1)` (R571) -/
  | rvFlw (imm12 : BitVec 12) (rs1 fd : RegIx)
  /-- `fld fd, imm(rs1)` (R572) -/
  | rvFld (imm12 : BitVec 12) (rs1 fd : RegIx)
  /-- `fsw fs2, imm(rs1)` (R573) -/
  | rvFsw (imm7 : BitVec 7) (fs2 rs1 : RegIx) (imm5 : BitVec 5)
  /-- `fsd fs2, imm(rs1)` (R574) -/
  | rvFsd (imm7 : BitVec 7) (fs2 rs1 : RegIx) (imm5 : BitVec 5)
  /-- `fadd.s fd, fs1, fs2` (R575) -/
  | rvFaddS (fs2 fs1 : RegIx) (rm : BitVec 3) (fd : RegIx)
  /-- `fadd.d fd, fs1, fs2` (R576) -/
  | rvFaddD (fs2 fs1 : RegIx) (rm : BitVec 3) (fd : RegIx)
  /-- `fsub.s fd, fs1, fs2` (R577) -/
  | rvFsubS (fs2 fs1 : RegIx) (rm : BitVec 3) (fd : RegIx)
  /-- `fsub.d fd, fs1, fs2` (R578) -/
  | rvFsubD (fs2 fs1 : RegIx) (rm : BitVec 3) (fd : RegIx)
  /-- `fmul.s fd, fs1, fs2` (R579) -/
  | rvFmulS (fs2 fs1 : RegIx) (rm : BitVec 3) (fd : RegIx)
  /-- `fmul.d fd, fs1, fs2` (R580) -/
  | rvFmulD (fs2 fs1 : RegIx) (rm : BitVec 3) (fd : RegIx)
  /-- `fdiv.s fd, fs1, fs2` (R581) -/
  | rvFdivS (fs2 fs1 : RegIx) (rm : BitVec 3) (fd : RegIx)
  /-- `fdiv.d fd, fs1, fs2` (R582) -/
  | rvFdivD (fs2 fs1 : RegIx) (rm : BitVec 3) (fd : RegIx)
  /-- `fsqrt.s fd, fs1` (R583) -/
  | rvFsqrtS (fs1 : RegIx) (rm : BitVec 3) (fd : RegIx)
  /-- `fsqrt.d fd, fs1` (R584) -/
  | rvFsqrtD (fs1 : RegIx) (rm : BitVec 3) (fd : RegIx)
  /-- `fsgnj.s fd, fs1, fs2` (R585) -/
  | rvFsgnjS (fs2 fs1 fd : RegIx)
  /-- `fsgnj.d fd, fs1, fs2` (R586) -/
  | rvFsgnjD (fs2 fs1 fd : RegIx)
  /-- `fsgnjn.s fd, fs1, fs2` (R587) -/
  | rvFsgnjnS (fs2 fs1 fd : RegIx)
  /-- `fsgnjn.d fd, fs1, fs2` (R588) -/
  | rvFsgnjnD (fs2 fs1 fd : RegIx)
  /-- `fsgnjx.s fd, fs1, fs2` (R589) -/
  | rvFsgnjxS (fs2 fs1 fd : RegIx)
  /-- `fsgnjx.d fd, fs1, fs2` (R590) -/
  | rvFsgnjxD (fs2 fs1 fd : RegIx)
  /-- `fmin.s fd, fs1, fs2` (R591) -/
  | rvFminS (fs2 fs1 fd : RegIx)
  /-- `fmin.d fd, fs1, fs2` (R592) -/
  | rvFminD (fs2 fs1 fd : RegIx)
  /-- `fmax.s fd, fs1, fs2` (R593) -/
  | rvFmaxS (fs2 fs1 fd : RegIx)
  /-- `fmax.d fd, fs1, fs2` (R594) -/
  | rvFmaxD (fs2 fs1 fd : RegIx)
  /-- `feq.s rd, fs1, fs2` (R595) -/
  | rvFeqS (fs2 fs1 rd : RegIx)
  /-- `feq.d rd, fs1, fs2` (R596) -/
  | rvFeqD (fs2 fs1 rd : RegIx)
  /-- `flt.s rd, fs1, fs2` (R597) -/
  | rvFltS (fs2 fs1 rd : RegIx)
  /-- `flt.d rd, fs1, fs2` (R598) -/
  | rvFltD (fs2 fs1 rd : RegIx)
  /-- `fle.s rd, fs1, fs2` (R599) -/
  | rvFleS (fs2 fs1 rd : RegIx)
  /-- `fle.d rd, fs1, fs2` (R600) -/
  | rvFleD (fs2 fs1 rd : RegIx)
  /-- `fclass.s rd, fs1` (R601) -/
  | rvFclassS (fs1 rd : RegIx)
  /-- `fclass.d rd, fs1` (R602) -/
  | rvFclassD (fs1 rd : RegIx)
  /-- `fmv.x.w rd, fs1` (R603) -/
  | rvFmvXW (fs1 rd : RegIx)
  /-- `fmv.x.d rd, fs1` (R604) -/
  | rvFmvXD (fs1 rd : RegIx)
  /-- `fmv.w.x fd, rs1` (R605) -/
  | rvFmvWX (rs1 fd : RegIx)
  /-- `fmv.d.x fd, rs1` (R606) -/
  | rvFmvDX (rs1 fd : RegIx)
  /-- `fmadd.s fd, fs1, fs2, fs3` (R607) -/
  | rvFmaddS (fs3 fs2 fs1 : RegIx) (rm : BitVec 3) (fd : RegIx)
  /-- `fmadd.d fd, fs1, fs2, fs3` (R608) -/
  | rvFmaddD (fs3 fs2 fs1 : RegIx) (rm : BitVec 3) (fd : RegIx)
  /-- `fmsub.s fd, fs1, fs2, fs3` (R609) -/
  | rvFmsubS (fs3 fs2 fs1 : RegIx) (rm : BitVec 3) (fd : RegIx)
  /-- `fmsub.d fd, fs1, fs2, fs3` (R610) -/
  | rvFmsubD (fs3 fs2 fs1 : RegIx) (rm : BitVec 3) (fd : RegIx)
  /-- `fnmsub.s fd, fs1, fs2, fs3` (R611) -/
  | rvFnmsubS (fs3 fs2 fs1 : RegIx) (rm : BitVec 3) (fd : RegIx)
  /-- `fnmsub.d fd, fs1, fs2, fs3` (R612) -/
  | rvFnmsubD (fs3 fs2 fs1 : RegIx) (rm : BitVec 3) (fd : RegIx)
  /-- `fnmadd.s fd, fs1, fs2, fs3` (R613) -/
  | rvFnmaddS (fs3 fs2 fs1 : RegIx) (rm : BitVec 3) (fd : RegIx)
  /-- `fnmadd.d fd, fs1, fs2, fs3` (R614) -/
  | rvFnmaddD (fs3 fs2 fs1 : RegIx) (rm : BitVec 3) (fd : RegIx)
deriving DecidableEq, Repr

end Sys2Proof
end

