-- ==== Sys2Proof/WellFormed.lean ====
section
/-! DEFINITION. Well-formed instructions: the operand values an encoding admits (spec/30_encoding.md R140). The only check
beyond the field widths is the rounding mode of the rounded floating-point instructions of `RV64L`. -/

namespace Sys2Proof

/-- R140, R645: `funct3` of a rounded instruction names a rounding mode: `101` and `110` do not. -/
def legalRm (rm : BitVec 3) : Bool := rm != 0b101#3 && rm != 0b110#3

/-- The operand values the encoding of an instruction admits. -/
def Instr.wf : Instr → Bool
  | .mipsAdd .. => true
  | .mipsAddu .. => true
  | .mipsSub .. => true
  | .mipsSubu .. => true
  | .mipsAnd .. => true
  | .mipsOr .. => true
  | .mipsXor .. => true
  | .mipsNor .. => true
  | .mipsSlt .. => true
  | .mipsSltu .. => true
  | .mipsDadd .. => true
  | .mipsDaddu .. => true
  | .mipsDsub .. => true
  | .mipsDsubu .. => true
  | .mipsSll .. => true
  | .mipsSrl .. => true
  | .mipsSra .. => true
  | .mipsDsll .. => true
  | .mipsDsrl .. => true
  | .mipsDsra .. => true
  | .mipsDsll32 .. => true
  | .mipsDsrl32 .. => true
  | .mipsDsra32 .. => true
  | .mipsMul .. => true
  | .mipsMuh .. => true
  | .mipsMulu .. => true
  | .mipsMuhu .. => true
  | .mipsDiv .. => true
  | .mipsMod .. => true
  | .mipsDivu .. => true
  | .mipsModu .. => true
  | .mipsDmul .. => true
  | .mipsDmuh .. => true
  | .mipsDmulu .. => true
  | .mipsDmuhu .. => true
  | .mipsDdiv .. => true
  | .mipsDmod .. => true
  | .mipsDdivu .. => true
  | .mipsDmodu .. => true
  | .mipsAddi .. => true
  | .mipsAddiu .. => true
  | .mipsSlti .. => true
  | .mipsSltiu .. => true
  | .mipsAndi .. => true
  | .mipsOri .. => true
  | .mipsXori .. => true
  | .mipsLui .. => true
  | .mipsDaddi .. => true
  | .mipsDaddiu .. => true
  | .mipsLb .. => true
  | .mipsLbu .. => true
  | .mipsLh .. => true
  | .mipsLhu .. => true
  | .mipsLw .. => true
  | .mipsLwu .. => true
  | .mipsLd .. => true
  | .mipsSb .. => true
  | .mipsSh .. => true
  | .mipsSw .. => true
  | .mipsSd .. => true
  | .mipsBeq .. => true
  | .mipsBne .. => true
  | .mipsJ .. => true
  | .mipsJal .. => true
  | .mipsJr .. => true
  | .mipsJalr .. => true
  | .mipsSyscall .. => true
  | .mipsLwc1 .. => true
  | .mipsLdc1 .. => true
  | .mipsSwc1 .. => true
  | .mipsSdc1 .. => true
  | .mipsMfc1 .. => true
  | .mipsDmfc1 .. => true
  | .mipsMtc1 .. => true
  | .mipsDmtc1 .. => true
  | .mipsBc1f .. => true
  | .mipsBc1t .. => true
  | .mipsAddS .. => true
  | .mipsAddD .. => true
  | .mipsSubS .. => true
  | .mipsSubD .. => true
  | .mipsMulS .. => true
  | .mipsMulD .. => true
  | .mipsDivS .. => true
  | .mipsDivD .. => true
  | .mipsSqrtS .. => true
  | .mipsSqrtD .. => true
  | .mipsCEqS .. => true
  | .mipsCEqD .. => true
  | .mipsCLtS .. => true
  | .mipsCLtD .. => true
  | .mipsCLeS .. => true
  | .mipsCLeD .. => true
  | .rvLui .. => true
  | .rvAuipc .. => true
  | .rvAddi .. => true
  | .rvSlti .. => true
  | .rvSltiu .. => true
  | .rvXori .. => true
  | .rvOri .. => true
  | .rvAndi .. => true
  | .rvSlli .. => true
  | .rvSrli .. => true
  | .rvSrai .. => true
  | .rvAddiw .. => true
  | .rvSlliw .. => true
  | .rvSrliw .. => true
  | .rvSraiw .. => true
  | .rvAdd .. => true
  | .rvSub .. => true
  | .rvSll .. => true
  | .rvSlt .. => true
  | .rvSltu .. => true
  | .rvXor .. => true
  | .rvSrl .. => true
  | .rvSra .. => true
  | .rvOr .. => true
  | .rvAnd .. => true
  | .rvAddw .. => true
  | .rvSubw .. => true
  | .rvSllw .. => true
  | .rvSrlw .. => true
  | .rvSraw .. => true
  | .rvMul .. => true
  | .rvMulh .. => true
  | .rvMulhsu .. => true
  | .rvMulhu .. => true
  | .rvDiv .. => true
  | .rvDivu .. => true
  | .rvRem .. => true
  | .rvRemu .. => true
  | .rvMulw .. => true
  | .rvDivw .. => true
  | .rvDivuw .. => true
  | .rvRemw .. => true
  | .rvRemuw .. => true
  | .rvLb .. => true
  | .rvLh .. => true
  | .rvLw .. => true
  | .rvLd .. => true
  | .rvLbu .. => true
  | .rvLhu .. => true
  | .rvLwu .. => true
  | .rvSb .. => true
  | .rvSh .. => true
  | .rvSw .. => true
  | .rvSd .. => true
  | .rvBeq .. => true
  | .rvBne .. => true
  | .rvBlt .. => true
  | .rvBge .. => true
  | .rvBltu .. => true
  | .rvBgeu .. => true
  | .rvJal .. => true
  | .rvJalr .. => true
  | .rvEcall .. => true
  | .rvFlw .. => true
  | .rvFld .. => true
  | .rvFsw .. => true
  | .rvFsd .. => true
  | .rvFaddS _ _ rm _ => legalRm rm
  | .rvFaddD _ _ rm _ => legalRm rm
  | .rvFsubS _ _ rm _ => legalRm rm
  | .rvFsubD _ _ rm _ => legalRm rm
  | .rvFmulS _ _ rm _ => legalRm rm
  | .rvFmulD _ _ rm _ => legalRm rm
  | .rvFdivS _ _ rm _ => legalRm rm
  | .rvFdivD _ _ rm _ => legalRm rm
  | .rvFsqrtS _ rm _ => legalRm rm
  | .rvFsqrtD _ rm _ => legalRm rm
  | .rvFsgnjS .. => true
  | .rvFsgnjD .. => true
  | .rvFsgnjnS .. => true
  | .rvFsgnjnD .. => true
  | .rvFsgnjxS .. => true
  | .rvFsgnjxD .. => true
  | .rvFminS .. => true
  | .rvFminD .. => true
  | .rvFmaxS .. => true
  | .rvFmaxD .. => true
  | .rvFeqS .. => true
  | .rvFeqD .. => true
  | .rvFltS .. => true
  | .rvFltD .. => true
  | .rvFleS .. => true
  | .rvFleD .. => true
  | .rvFclassS .. => true
  | .rvFclassD .. => true
  | .rvFmvXW .. => true
  | .rvFmvXD .. => true
  | .rvFmvWX .. => true
  | .rvFmvDX .. => true
  | .rvFmaddS _ _ _ rm _ => legalRm rm
  | .rvFmaddD _ _ _ rm _ => legalRm rm
  | .rvFmsubS _ _ _ rm _ => legalRm rm
  | .rvFmsubD _ _ _ rm _ => legalRm rm
  | .rvFnmsubS _ _ _ rm _ => legalRm rm
  | .rvFnmsubD _ _ _ rm _ => legalRm rm
  | .rvFnmaddS _ _ _ rm _ => legalRm rm
  | .rvFnmaddD _ _ _ rm _ => legalRm rm

end Sys2Proof
end

