-- ==== Sys2Proof/Decode.lean ====
section
/-! DEFINITION. The decoder of spec/30_encoding.md (R110 to R127) and, after it, the encoder written from the same
encodings. Decoding has two levels (R115, R162): the primary opcode selects the record's variant or is an error, the
secondary fields select the instruction or leave the word inert. Also here: the byte order of multi-byte values (R83). -/

namespace Sys2Proof

/-! ## Byte order -/

/-- The `n` bytes of a value of `8n` bits given as a natural number, the least significant first (R83, `Little`). -/
def bytesLE : Nat → Nat → List Byte
  | 0, _ => []
  | n + 1, v => BitVec.ofNat 8 v :: bytesLE n (v / 256)

/-- The value of bytes given the least significant first (R83, `Little`). -/
def valueLE : List Byte → Nat
  | [] => 0
  | b :: bs => b.toNat + 256 * valueLE bs

/-- R83: the bytes of an `8n`-bit value in address order. -/
def toBytes (order : ByteOrder) (n v : Nat) : List Byte :=
  match order with
  | .little => bytesLE n v
  | .big => (bytesLE n v).reverse

/-- R83: the value of bytes given in address order. -/
def ofBytes (order : ByteOrder) (bs : List Byte) : Nat :=
  match order with
  | .little => valueLE bs
  | .big => valueLE bs.reverse

/-! ## The primary decode -/

/-- What the opcode column of R116 and R117 says of a primary opcode: the variant, or for `COP1` that `w[25:21]`
chooses it (R113). -/
inductive Variant where
  | rType | iType | sType | bType | uType | jType | r4Type | cop1
deriving DecidableEq, Repr

/-- R116: the `MIPS64L` primary opcode table. -/
def mipsVariant (opcode : BitVec 6) : Option Variant :=
  match opcode with
  | 0b000000#6 => some .rType
  | 0b000010#6 => some .jType
  | 0b000011#6 => some .jType
  | 0b000100#6 => some .iType
  | 0b000101#6 => some .iType
  | 0b001000#6 => some .iType
  | 0b001001#6 => some .iType
  | 0b001010#6 => some .iType
  | 0b001011#6 => some .iType
  | 0b001100#6 => some .iType
  | 0b001101#6 => some .iType
  | 0b001110#6 => some .iType
  | 0b001111#6 => some .iType
  | 0b010001#6 => some .cop1
  | 0b011000#6 => some .iType
  | 0b011001#6 => some .iType
  | 0b100000#6 => some .iType
  | 0b100001#6 => some .iType
  | 0b100011#6 => some .iType
  | 0b100100#6 => some .iType
  | 0b100101#6 => some .iType
  | 0b100111#6 => some .iType
  | 0b101000#6 => some .iType
  | 0b101001#6 => some .iType
  | 0b101011#6 => some .iType
  | 0b110001#6 => some .iType
  | 0b110101#6 => some .iType
  | 0b110111#6 => some .iType
  | 0b111001#6 => some .iType
  | 0b111101#6 => some .iType
  | 0b111111#6 => some .iType
  | _ => none

/-- R117: the `RV64L` primary opcode table. -/
def rvVariant (opcode : BitVec 7) : Option Variant :=
  match opcode with
  | 0b0000011#7 => some .iType
  | 0b0000111#7 => some .iType
  | 0b0010011#7 => some .iType
  | 0b0010111#7 => some .uType
  | 0b0011011#7 => some .iType
  | 0b0100011#7 => some .sType
  | 0b0100111#7 => some .sType
  | 0b0110011#7 => some .rType
  | 0b0110111#7 => some .uType
  | 0b0111011#7 => some .rType
  | 0b1000011#7 => some .r4Type
  | 0b1000111#7 => some .r4Type
  | 0b1001011#7 => some .r4Type
  | 0b1001111#7 => some .r4Type
  | 0b1010011#7 => some .rType
  | 0b1100011#7 => some .bType
  | 0b1100111#7 => some .iType
  | 0b1101111#7 => some .jType
  | 0b1110011#7 => some .iType
  | _ => none

/-- R112: the primary opcode of a `MIPS64L` word. -/
def mipsOpcode (w : Word32) : BitVec 6 := w.extractLsb' 26 6

/-- R114: the primary opcode of an `RV64L` word. -/
def rvOpcode (w : Word32) : BitVec 7 := w.extractLsb' 0 7

/-- R701: the primary opcode value an `UnsupportedOpcode` error carries; the six bits of `MIPS64L` are zero-extended. -/
def primaryOpcode (isa : Isa) (w : Word32) : BitVec 7 :=
  match isa with
  | .mips64l => (mipsOpcode w).setWidth 7
  | .rv64l => rvOpcode w

/-- R112: the fields of a `MIPS64L` word in the variant `RType`. -/
def mipsRFields (w : Word32) : Record :=
  .mipsR (mipsOpcode w) (w.extractLsb' 21 5) (w.extractLsb' 16 5) (w.extractLsb' 11 5) (w.extractLsb' 6 5) (w.extractLsb' 0 6)

/-- R112: the fields of a `MIPS64L` word in the variant `IType`. -/
def mipsIFields (w : Word32) : Record :=
  .mipsI (mipsOpcode w) (w.extractLsb' 21 5) (w.extractLsb' 16 5) (w.extractLsb' 0 16)

/-- R112: the fields of a `MIPS64L` word in the variant `JType`. -/
def mipsJFields (w : Word32) : Record := .mipsJ (mipsOpcode w) (w.extractLsb' 0 26)

/-- R112, R113, R116: the record of a `MIPS64L` word. A `COP1` word whose `w[25:21]` is `01000` is `IType`, every other one
is `RType`. -/
def decodeMips (w : Word32) : Option Record :=
  match mipsVariant (mipsOpcode w) with
  | some .rType => some (mipsRFields w)
  | some .iType => some (mipsIFields w)
  | some .jType => some (mipsJFields w)
  | some .cop1 => if w.extractLsb' 21 5 = 0b01000#5 then some (mipsIFields w) else some (mipsRFields w)
  | _ => none

/-- R114, R117: the record of an `RV64L` word. -/
def decodeRv (w : Word32) : Option Record :=
  match rvVariant (rvOpcode w) with
  | some .rType =>
    some (.rvR (w.extractLsb' 25 7) (w.extractLsb' 20 5) (w.extractLsb' 15 5) (w.extractLsb' 12 3) (w.extractLsb' 7 5) (rvOpcode w))
  | some .iType => some (.rvI (w.extractLsb' 20 12) (w.extractLsb' 15 5) (w.extractLsb' 12 3) (w.extractLsb' 7 5) (rvOpcode w))
  | some .sType =>
    some (.rvS (w.extractLsb' 25 7) (w.extractLsb' 20 5) (w.extractLsb' 15 5) (w.extractLsb' 12 3) (w.extractLsb' 7 5) (rvOpcode w))
  | some .bType =>
    some (.rvB (w.extractLsb' 25 7) (w.extractLsb' 20 5) (w.extractLsb' 15 5) (w.extractLsb' 12 3) (w.extractLsb' 7 5) (rvOpcode w))
  | some .uType => some (.rvU (w.extractLsb' 12 20) (w.extractLsb' 7 5) (rvOpcode w))
  | some .jType => some (.rvJ (w.extractLsb' 12 20) (w.extractLsb' 7 5) (rvOpcode w))
  | some .r4Type =>
    some (.rvR4 (w.extractLsb' 27 5) (w.extractLsb' 25 2) (w.extractLsb' 20 5) (w.extractLsb' 15 5) (w.extractLsb' 12 3)
      (w.extractLsb' 7 5) (rvOpcode w))
  | _ => none

/-- R115: `decode(word, isa)`, none where it fails with `UnsupportedOpcode`. It looks only at the primary opcode, and for
`COP1` at `w[25:21]`. -/
def decodeRecord (isa : Isa) (w : Word32) : Option Record :=
  match isa with
  | .mips64l => decodeMips w
  | .rv64l => decodeRv w

/-! ## The secondary decode -/

/-- R645: the rounding mode `funct3` names; `111` selects `RNE` and `101`, `110` name none. -/
def roundingMode (rm : BitVec 3) : Option Machine.Round :=
  match rm with
  | 0b000#3 => some .rne
  | 0b001#3 => some .rtz
  | 0b010#3 => some .rdn
  | 0b011#3 => some .rup
  | 0b100#3 => some .rmm
  | 0b111#3 => some .rne
  | _ => none

/-- The words of primary opcode `000000` in `RType` (R301 to R378). -/
def decodeMipsSpecial (rs rt rd : RegIx) (shamt : BitVec 5) (funct : BitVec 6) : Option Instr :=
  match funct with
  | 0b000000#6 => some (.mipsSll rs rt rd shamt)
  | 0b000010#6 => some (.mipsSrl rs rt rd shamt)
  | 0b000011#6 => some (.mipsSra rs rt rd shamt)
  | 0b001000#6 => some (.mipsJr rs rt rd shamt)
  | 0b001001#6 => some (.mipsJalr rs rt rd shamt)
  | 0b001100#6 => some (.mipsSyscall rs rt rd shamt)
  | 0b011000#6 => match shamt with
    | 0b00010#5 => some (.mipsMul rs rt rd)
    | 0b00011#5 => some (.mipsMuh rs rt rd)
    | _ => none
  | 0b011001#6 => match shamt with
    | 0b00010#5 => some (.mipsMulu rs rt rd)
    | 0b00011#5 => some (.mipsMuhu rs rt rd)
    | _ => none
  | 0b011010#6 => match shamt with
    | 0b00010#5 => some (.mipsDiv rs rt rd)
    | 0b00011#5 => some (.mipsMod rs rt rd)
    | _ => none
  | 0b011011#6 => match shamt with
    | 0b00010#5 => some (.mipsDivu rs rt rd)
    | 0b00011#5 => some (.mipsModu rs rt rd)
    | _ => none
  | 0b011100#6 => match shamt with
    | 0b00010#5 => some (.mipsDmul rs rt rd)
    | 0b00011#5 => some (.mipsDmuh rs rt rd)
    | _ => none
  | 0b011101#6 => match shamt with
    | 0b00010#5 => some (.mipsDmulu rs rt rd)
    | 0b00011#5 => some (.mipsDmuhu rs rt rd)
    | _ => none
  | 0b011110#6 => match shamt with
    | 0b00010#5 => some (.mipsDdiv rs rt rd)
    | 0b00011#5 => some (.mipsDmod rs rt rd)
    | _ => none
  | 0b011111#6 => match shamt with
    | 0b00010#5 => some (.mipsDdivu rs rt rd)
    | 0b00011#5 => some (.mipsDmodu rs rt rd)
    | _ => none
  | 0b100000#6 => some (.mipsAdd rs rt rd shamt)
  | 0b100001#6 => some (.mipsAddu rs rt rd shamt)
  | 0b100010#6 => some (.mipsSub rs rt rd shamt)
  | 0b100011#6 => some (.mipsSubu rs rt rd shamt)
  | 0b100100#6 => some (.mipsAnd rs rt rd shamt)
  | 0b100101#6 => some (.mipsOr rs rt rd shamt)
  | 0b100110#6 => some (.mipsXor rs rt rd shamt)
  | 0b100111#6 => some (.mipsNor rs rt rd shamt)
  | 0b101010#6 => some (.mipsSlt rs rt rd shamt)
  | 0b101011#6 => some (.mipsSltu rs rt rd shamt)
  | 0b101100#6 => some (.mipsDadd rs rt rd shamt)
  | 0b101101#6 => some (.mipsDaddu rs rt rd shamt)
  | 0b101110#6 => some (.mipsDsub rs rt rd shamt)
  | 0b101111#6 => some (.mipsDsubu rs rt rd shamt)
  | 0b111000#6 => some (.mipsDsll rs rt rd shamt)
  | 0b111010#6 => some (.mipsDsrl rs rt rd shamt)
  | 0b111011#6 => some (.mipsDsra rs rt rd shamt)
  | 0b111100#6 => some (.mipsDsll32 rs rt rd shamt)
  | 0b111110#6 => some (.mipsDsrl32 rs rt rd shamt)
  | 0b111111#6 => some (.mipsDsra32 rs rt rd shamt)
  | _ => none

/-- The words of primary opcode `010001` in `RType` (R405 to R426). -/
def decodeMipsCop1 (rs rt rd : RegIx) (shamt : BitVec 5) (funct : BitVec 6) : Option Instr :=
  match rs with
  | 0b00000#5 => some (.mipsMfc1 rt rd shamt funct)
  | 0b00001#5 => some (.mipsDmfc1 rt rd shamt funct)
  | 0b00100#5 => some (.mipsMtc1 rt rd shamt funct)
  | 0b00101#5 => some (.mipsDmtc1 rt rd shamt funct)
  | 0b10000#5 => match funct with
    | 0b000000#6 => some (.mipsAddS rt rd shamt)
    | 0b000001#6 => some (.mipsSubS rt rd shamt)
    | 0b000010#6 => some (.mipsMulS rt rd shamt)
    | 0b000011#6 => some (.mipsDivS rt rd shamt)
    | 0b000100#6 => match rt with
      | 0b00000#5 => some (.mipsSqrtS rd shamt)
      | _ => none
    | 0b110010#6 => match shamt with
      | 0b00000#5 => some (.mipsCEqS rt rd)
      | _ => none
    | 0b111100#6 => match shamt with
      | 0b00000#5 => some (.mipsCLtS rt rd)
      | _ => none
    | 0b111110#6 => match shamt with
      | 0b00000#5 => some (.mipsCLeS rt rd)
      | _ => none
    | _ => none
  | 0b10001#5 => match funct with
    | 0b000000#6 => some (.mipsAddD rt rd shamt)
    | 0b000001#6 => some (.mipsSubD rt rd shamt)
    | 0b000010#6 => some (.mipsMulD rt rd shamt)
    | 0b000011#6 => some (.mipsDivD rt rd shamt)
    | 0b000100#6 => match rt with
      | 0b00000#5 => some (.mipsSqrtD rd shamt)
      | _ => none
    | 0b110010#6 => match shamt with
      | 0b00000#5 => some (.mipsCEqD rt rd)
      | _ => none
    | 0b111100#6 => match shamt with
      | 0b00000#5 => some (.mipsCLtD rt rd)
      | _ => none
    | 0b111110#6 => match shamt with
      | 0b00000#5 => some (.mipsCLeD rt rd)
      | _ => none
    | _ => none
  | _ => none

/-- The words of primary opcode `010001` in `IType` (R409 to R410). -/
def decodeMipsCop1Branch (rs rt : RegIx) (imm16 : BitVec 16) : Option Instr :=
  match rs with
  | 0b01000#5 => match rt with
    | 0b00000#5 => some (.mipsBc1f imm16)
    | 0b00001#5 => some (.mipsBc1t imm16)
    | _ => none
  | _ => none

/-- The words of primary opcode `0010011` in `IType` (R453 to R461). -/
def decodeRvOpImm (imm12 : BitVec 12) (rs1 : RegIx) (funct3 : BitVec 3) (rd : RegIx) : Option Instr :=
  match funct3 with
  | 0b000#3 => some (.rvAddi imm12 rs1 rd)
  | 0b001#3 => match imm12.extractLsb' 6 6 with
    | 0b000000#6 => some (.rvSlli (imm12.extractLsb' 0 6) rs1 rd)
    | _ => none
  | 0b010#3 => some (.rvSlti imm12 rs1 rd)
  | 0b011#3 => some (.rvSltiu imm12 rs1 rd)
  | 0b100#3 => some (.rvXori imm12 rs1 rd)
  | 0b101#3 => match imm12.extractLsb' 6 6 with
    | 0b000000#6 => some (.rvSrli (imm12.extractLsb' 0 6) rs1 rd)
    | 0b010000#6 => some (.rvSrai (imm12.extractLsb' 0 6) rs1 rd)
    | _ => none
  | 0b110#3 => some (.rvOri imm12 rs1 rd)
  | 0b111#3 => some (.rvAndi imm12 rs1 rd)
  | _ => none

/-- The words of primary opcode `0011011` in `IType` (R462 to R465). -/
def decodeRvOpImm32 (imm12 : BitVec 12) (rs1 : RegIx) (funct3 : BitVec 3) (rd : RegIx) : Option Instr :=
  match funct3 with
  | 0b000#3 => some (.rvAddiw imm12 rs1 rd)
  | 0b001#3 => match imm12.extractLsb' 5 7 with
    | 0b0000000#7 => some (.rvSlliw (imm12.extractLsb' 0 5) rs1 rd)
    | _ => none
  | 0b101#3 => match imm12.extractLsb' 5 7 with
    | 0b0000000#7 => some (.rvSrliw (imm12.extractLsb' 0 5) rs1 rd)
    | 0b0100000#7 => some (.rvSraiw (imm12.extractLsb' 0 5) rs1 rd)
    | _ => none
  | _ => none

/-- The words of primary opcode `0110011` in `RType` (R466 to R488). -/
def decodeRvOp (funct7 : BitVec 7) (rs2 rs1 : RegIx) (funct3 : BitVec 3) (rd : RegIx) : Option Instr :=
  match funct7 with
  | 0b0000000#7 => match funct3 with
    | 0b000#3 => some (.rvAdd rs2 rs1 rd)
    | 0b001#3 => some (.rvSll rs2 rs1 rd)
    | 0b010#3 => some (.rvSlt rs2 rs1 rd)
    | 0b011#3 => some (.rvSltu rs2 rs1 rd)
    | 0b100#3 => some (.rvXor rs2 rs1 rd)
    | 0b101#3 => some (.rvSrl rs2 rs1 rd)
    | 0b110#3 => some (.rvOr rs2 rs1 rd)
    | 0b111#3 => some (.rvAnd rs2 rs1 rd)
    | _ => none
  | 0b0000001#7 => match funct3 with
    | 0b000#3 => some (.rvMul rs2 rs1 rd)
    | 0b001#3 => some (.rvMulh rs2 rs1 rd)
    | 0b010#3 => some (.rvMulhsu rs2 rs1 rd)
    | 0b011#3 => some (.rvMulhu rs2 rs1 rd)
    | 0b100#3 => some (.rvDiv rs2 rs1 rd)
    | 0b101#3 => some (.rvDivu rs2 rs1 rd)
    | 0b110#3 => some (.rvRem rs2 rs1 rd)
    | 0b111#3 => some (.rvRemu rs2 rs1 rd)
    | _ => none
  | 0b0100000#7 => match funct3 with
    | 0b000#3 => some (.rvSub rs2 rs1 rd)
    | 0b101#3 => some (.rvSra rs2 rs1 rd)
    | _ => none
  | _ => none

/-- The words of primary opcode `0111011` in `RType` (R476 to R493). -/
def decodeRvOp32 (funct7 : BitVec 7) (rs2 rs1 : RegIx) (funct3 : BitVec 3) (rd : RegIx) : Option Instr :=
  match funct7 with
  | 0b0000000#7 => match funct3 with
    | 0b000#3 => some (.rvAddw rs2 rs1 rd)
    | 0b001#3 => some (.rvSllw rs2 rs1 rd)
    | 0b101#3 => some (.rvSrlw rs2 rs1 rd)
    | _ => none
  | 0b0000001#7 => match funct3 with
    | 0b000#3 => some (.rvMulw rs2 rs1 rd)
    | 0b100#3 => some (.rvDivw rs2 rs1 rd)
    | 0b101#3 => some (.rvDivuw rs2 rs1 rd)
    | 0b110#3 => some (.rvRemw rs2 rs1 rd)
    | 0b111#3 => some (.rvRemuw rs2 rs1 rd)
    | _ => none
  | 0b0100000#7 => match funct3 with
    | 0b000#3 => some (.rvSubw rs2 rs1 rd)
    | 0b101#3 => some (.rvSraw rs2 rs1 rd)
    | _ => none
  | _ => none

/-- The words of primary opcode `0000011` in `IType` (R531 to R537). -/
def decodeRvLoad (imm12 : BitVec 12) (rs1 : RegIx) (funct3 : BitVec 3) (rd : RegIx) : Option Instr :=
  match funct3 with
  | 0b000#3 => some (.rvLb imm12 rs1 rd)
  | 0b001#3 => some (.rvLh imm12 rs1 rd)
  | 0b010#3 => some (.rvLw imm12 rs1 rd)
  | 0b011#3 => some (.rvLd imm12 rs1 rd)
  | 0b100#3 => some (.rvLbu imm12 rs1 rd)
  | 0b101#3 => some (.rvLhu imm12 rs1 rd)
  | 0b110#3 => some (.rvLwu imm12 rs1 rd)
  | _ => none

/-- The words of primary opcode `0100011` in `SType` (R538 to R541). -/
def decodeRvStore (imm7 : BitVec 7) (rs2 rs1 : RegIx) (funct3 : BitVec 3) (imm5 : BitVec 5) : Option Instr :=
  match funct3 with
  | 0b000#3 => some (.rvSb imm7 rs2 rs1 imm5)
  | 0b001#3 => some (.rvSh imm7 rs2 rs1 imm5)
  | 0b010#3 => some (.rvSw imm7 rs2 rs1 imm5)
  | 0b011#3 => some (.rvSd imm7 rs2 rs1 imm5)
  | _ => none

/-- The words of primary opcode `1100011` in `BType` (R542 to R547). -/
def decodeRvBranch (imm7 : BitVec 7) (rs2 rs1 : RegIx) (funct3 : BitVec 3) (imm5 : BitVec 5) : Option Instr :=
  match funct3 with
  | 0b000#3 => some (.rvBeq imm7 rs2 rs1 imm5)
  | 0b001#3 => some (.rvBne imm7 rs2 rs1 imm5)
  | 0b100#3 => some (.rvBlt imm7 rs2 rs1 imm5)
  | 0b101#3 => some (.rvBge imm7 rs2 rs1 imm5)
  | 0b110#3 => some (.rvBltu imm7 rs2 rs1 imm5)
  | 0b111#3 => some (.rvBgeu imm7 rs2 rs1 imm5)
  | _ => none

/-- The words of primary opcode `1100111` in `IType` (R549 to R549). -/
def decodeRvJalr (imm12 : BitVec 12) (rs1 : RegIx) (funct3 : BitVec 3) (rd : RegIx) : Option Instr :=
  match funct3 with
  | 0b000#3 => some (.rvJalr imm12 rs1 rd)
  | _ => none

/-- The words of primary opcode `1110011` in `IType` (R550 to R550). -/
def decodeRvSystem (imm12 : BitVec 12) (rs1 : RegIx) (funct3 : BitVec 3) (rd : RegIx) : Option Instr :=
  match funct3 with
  | 0b000#3 => match imm12 with
    | 0b000000000000#12 => some (.rvEcall rs1 rd)
    | _ => none
  | _ => none

/-- The words of primary opcode `0000111` in `IType` (R571 to R572). -/
def decodeRvLoadFp (imm12 : BitVec 12) (rs1 : RegIx) (funct3 : BitVec 3) (rd : RegIx) : Option Instr :=
  match funct3 with
  | 0b010#3 => some (.rvFlw imm12 rs1 rd)
  | 0b011#3 => some (.rvFld imm12 rs1 rd)
  | _ => none

/-- The words of primary opcode `0100111` in `SType` (R573 to R574). -/
def decodeRvStoreFp (imm7 : BitVec 7) (rs2 rs1 : RegIx) (funct3 : BitVec 3) (imm5 : BitVec 5) : Option Instr :=
  match funct3 with
  | 0b010#3 => some (.rvFsw imm7 rs2 rs1 imm5)
  | 0b011#3 => some (.rvFsd imm7 rs2 rs1 imm5)
  | _ => none

/-- The words of primary opcode `1010011` in `RType` (R575 to R606). -/
def decodeRvOpFp (funct7 : BitVec 7) (rs2 rs1 : RegIx) (funct3 : BitVec 3) (rd : RegIx) : Option Instr :=
  match funct7 with
  | 0b0000000#7 => if (roundingMode funct3).isSome then some (.rvFaddS rs2 rs1 funct3 rd) else none
  | 0b0000001#7 => if (roundingMode funct3).isSome then some (.rvFaddD rs2 rs1 funct3 rd) else none
  | 0b0000100#7 => if (roundingMode funct3).isSome then some (.rvFsubS rs2 rs1 funct3 rd) else none
  | 0b0000101#7 => if (roundingMode funct3).isSome then some (.rvFsubD rs2 rs1 funct3 rd) else none
  | 0b0001000#7 => if (roundingMode funct3).isSome then some (.rvFmulS rs2 rs1 funct3 rd) else none
  | 0b0001001#7 => if (roundingMode funct3).isSome then some (.rvFmulD rs2 rs1 funct3 rd) else none
  | 0b0001100#7 => if (roundingMode funct3).isSome then some (.rvFdivS rs2 rs1 funct3 rd) else none
  | 0b0001101#7 => if (roundingMode funct3).isSome then some (.rvFdivD rs2 rs1 funct3 rd) else none
  | 0b0010000#7 => match funct3 with
    | 0b000#3 => some (.rvFsgnjS rs2 rs1 rd)
    | 0b001#3 => some (.rvFsgnjnS rs2 rs1 rd)
    | 0b010#3 => some (.rvFsgnjxS rs2 rs1 rd)
    | _ => none
  | 0b0010001#7 => match funct3 with
    | 0b000#3 => some (.rvFsgnjD rs2 rs1 rd)
    | 0b001#3 => some (.rvFsgnjnD rs2 rs1 rd)
    | 0b010#3 => some (.rvFsgnjxD rs2 rs1 rd)
    | _ => none
  | 0b0010100#7 => match funct3 with
    | 0b000#3 => some (.rvFminS rs2 rs1 rd)
    | 0b001#3 => some (.rvFmaxS rs2 rs1 rd)
    | _ => none
  | 0b0010101#7 => match funct3 with
    | 0b000#3 => some (.rvFminD rs2 rs1 rd)
    | 0b001#3 => some (.rvFmaxD rs2 rs1 rd)
    | _ => none
  | 0b0101100#7 => match rs2 with
    | 0b00000#5 => if (roundingMode funct3).isSome then some (.rvFsqrtS rs1 funct3 rd) else none
    | _ => none
  | 0b0101101#7 => match rs2 with
    | 0b00000#5 => if (roundingMode funct3).isSome then some (.rvFsqrtD rs1 funct3 rd) else none
    | _ => none
  | 0b1010000#7 => match funct3 with
    | 0b000#3 => some (.rvFleS rs2 rs1 rd)
    | 0b001#3 => some (.rvFltS rs2 rs1 rd)
    | 0b010#3 => some (.rvFeqS rs2 rs1 rd)
    | _ => none
  | 0b1010001#7 => match funct3 with
    | 0b000#3 => some (.rvFleD rs2 rs1 rd)
    | 0b001#3 => some (.rvFltD rs2 rs1 rd)
    | 0b010#3 => some (.rvFeqD rs2 rs1 rd)
    | _ => none
  | 0b1110000#7 => match funct3 with
    | 0b000#3 => match rs2 with
      | 0b00000#5 => some (.rvFmvXW rs1 rd)
      | _ => none
    | 0b001#3 => match rs2 with
      | 0b00000#5 => some (.rvFclassS rs1 rd)
      | _ => none
    | _ => none
  | 0b1110001#7 => match funct3 with
    | 0b000#3 => match rs2 with
      | 0b00000#5 => some (.rvFmvXD rs1 rd)
      | _ => none
    | 0b001#3 => match rs2 with
      | 0b00000#5 => some (.rvFclassD rs1 rd)
      | _ => none
    | _ => none
  | 0b1111000#7 => match funct3 with
    | 0b000#3 => match rs2 with
      | 0b00000#5 => some (.rvFmvWX rs1 rd)
      | _ => none
    | _ => none
  | 0b1111001#7 => match funct3 with
    | 0b000#3 => match rs2 with
      | 0b00000#5 => some (.rvFmvDX rs1 rd)
      | _ => none
    | _ => none
  | _ => none

/-- The words of primary opcode `1000011` in `R4Type` (R607 to R608). -/
def decodeRvMadd (rs3 : RegIx) (funct2 : BitVec 2) (rs2 rs1 : RegIx) (funct3 : BitVec 3) (rd : RegIx) : Option Instr :=
  match funct2 with
  | 0b00#2 => if (roundingMode funct3).isSome then some (.rvFmaddS rs3 rs2 rs1 funct3 rd) else none
  | 0b01#2 => if (roundingMode funct3).isSome then some (.rvFmaddD rs3 rs2 rs1 funct3 rd) else none
  | _ => none

/-- The words of primary opcode `1000111` in `R4Type` (R609 to R610). -/
def decodeRvMsub (rs3 : RegIx) (funct2 : BitVec 2) (rs2 rs1 : RegIx) (funct3 : BitVec 3) (rd : RegIx) : Option Instr :=
  match funct2 with
  | 0b00#2 => if (roundingMode funct3).isSome then some (.rvFmsubS rs3 rs2 rs1 funct3 rd) else none
  | 0b01#2 => if (roundingMode funct3).isSome then some (.rvFmsubD rs3 rs2 rs1 funct3 rd) else none
  | _ => none

/-- The words of primary opcode `1001011` in `R4Type` (R611 to R612). -/
def decodeRvNmsub (rs3 : RegIx) (funct2 : BitVec 2) (rs2 rs1 : RegIx) (funct3 : BitVec 3) (rd : RegIx) : Option Instr :=
  match funct2 with
  | 0b00#2 => if (roundingMode funct3).isSome then some (.rvFnmsubS rs3 rs2 rs1 funct3 rd) else none
  | 0b01#2 => if (roundingMode funct3).isSome then some (.rvFnmsubD rs3 rs2 rs1 funct3 rd) else none
  | _ => none

/-- The words of primary opcode `1001111` in `R4Type` (R613 to R614). -/
def decodeRvNmadd (rs3 : RegIx) (funct2 : BitVec 2) (rs2 rs1 : RegIx) (funct3 : BitVec 3) (rd : RegIx) : Option Instr :=
  match funct2 with
  | 0b00#2 => if (roundingMode funct3).isSome then some (.rvFnmaddS rs3 rs2 rs1 funct3 rd) else none
  | 0b01#2 => if (roundingMode funct3).isSome then some (.rvFnmaddD rs3 rs2 rs1 funct3 rd) else none
  | _ => none

/-- The secondary decode (R162): the instruction whose examined fields a record has, or none where they match no
instruction rule of spec/41 to spec/46. -/
def Record.instr : Record → Option Instr
  | .mipsR opcode rs rt rd shamt funct =>
    match opcode with
    | 0b000000#6 => decodeMipsSpecial rs rt rd shamt funct
    | 0b010001#6 => decodeMipsCop1 rs rt rd shamt funct
    | _ => none
  | .mipsI opcode rs rt imm16 =>
    match opcode with
    | 0b000100#6 => some (.mipsBeq rs rt imm16)
    | 0b000101#6 => some (.mipsBne rs rt imm16)
    | 0b001000#6 => some (.mipsAddi rs rt imm16)
    | 0b001001#6 => some (.mipsAddiu rs rt imm16)
    | 0b001010#6 => some (.mipsSlti rs rt imm16)
    | 0b001011#6 => some (.mipsSltiu rs rt imm16)
    | 0b001100#6 => some (.mipsAndi rs rt imm16)
    | 0b001101#6 => some (.mipsOri rs rt imm16)
    | 0b001110#6 => some (.mipsXori rs rt imm16)
    | 0b001111#6 => some (.mipsLui rs rt imm16)
    | 0b010001#6 => decodeMipsCop1Branch rs rt imm16
    | 0b011000#6 => some (.mipsDaddi rs rt imm16)
    | 0b011001#6 => some (.mipsDaddiu rs rt imm16)
    | 0b100000#6 => some (.mipsLb rs rt imm16)
    | 0b100001#6 => some (.mipsLh rs rt imm16)
    | 0b100011#6 => some (.mipsLw rs rt imm16)
    | 0b100100#6 => some (.mipsLbu rs rt imm16)
    | 0b100101#6 => some (.mipsLhu rs rt imm16)
    | 0b100111#6 => some (.mipsLwu rs rt imm16)
    | 0b101000#6 => some (.mipsSb rs rt imm16)
    | 0b101001#6 => some (.mipsSh rs rt imm16)
    | 0b101011#6 => some (.mipsSw rs rt imm16)
    | 0b110001#6 => some (.mipsLwc1 rs rt imm16)
    | 0b110101#6 => some (.mipsLdc1 rs rt imm16)
    | 0b110111#6 => some (.mipsLd rs rt imm16)
    | 0b111001#6 => some (.mipsSwc1 rs rt imm16)
    | 0b111101#6 => some (.mipsSdc1 rs rt imm16)
    | 0b111111#6 => some (.mipsSd rs rt imm16)
    | _ => none
  | .mipsJ opcode index =>
    match opcode with
    | 0b000010#6 => some (.mipsJ index)
    | 0b000011#6 => some (.mipsJal index)
    | _ => none
  | .rvR funct7 rs2 rs1 funct3 rd opcode =>
    match opcode with
    | 0b0110011#7 => decodeRvOp funct7 rs2 rs1 funct3 rd
    | 0b0111011#7 => decodeRvOp32 funct7 rs2 rs1 funct3 rd
    | 0b1010011#7 => decodeRvOpFp funct7 rs2 rs1 funct3 rd
    | _ => none
  | .rvI imm12 rs1 funct3 rd opcode =>
    match opcode with
    | 0b0000011#7 => decodeRvLoad imm12 rs1 funct3 rd
    | 0b0000111#7 => decodeRvLoadFp imm12 rs1 funct3 rd
    | 0b0010011#7 => decodeRvOpImm imm12 rs1 funct3 rd
    | 0b0011011#7 => decodeRvOpImm32 imm12 rs1 funct3 rd
    | 0b1100111#7 => decodeRvJalr imm12 rs1 funct3 rd
    | 0b1110011#7 => decodeRvSystem imm12 rs1 funct3 rd
    | _ => none
  | .rvS imm7 rs2 rs1 funct3 imm5 opcode =>
    match opcode with
    | 0b0100011#7 => decodeRvStore imm7 rs2 rs1 funct3 imm5
    | 0b0100111#7 => decodeRvStoreFp imm7 rs2 rs1 funct3 imm5
    | _ => none
  | .rvB imm7 rs2 rs1 funct3 imm5 opcode =>
    match opcode with
    | 0b1100011#7 => decodeRvBranch imm7 rs2 rs1 funct3 imm5
    | _ => none
  | .rvU imm20 rd opcode =>
    match opcode with
    | 0b0010111#7 => some (.rvAuipc imm20 rd)
    | 0b0110111#7 => some (.rvLui imm20 rd)
    | _ => none
  | .rvJ imm20 rd opcode =>
    match opcode with
    | 0b1101111#7 => some (.rvJal imm20 rd)
    | _ => none
  | .rvR4 rs3 funct2 rs2 rs1 funct3 rd opcode =>
    match opcode with
    | 0b1000011#7 => decodeRvMadd rs3 funct2 rs2 rs1 funct3 rd
    | 0b1000111#7 => decodeRvMsub rs3 funct2 rs2 rs1 funct3 rd
    | 0b1001011#7 => decodeRvNmsub rs3 funct2 rs2 rs1 funct3 rd
    | 0b1001111#7 => decodeRvNmadd rs3 funct2 rs2 rs1 funct3 rd
    | _ => none

/-- R125: the three fates of a word. -/
inductive Decoded where
  /-- Case 2: an instruction of spec/41 to spec/46. -/
  | instr (i : Instr)
  /-- Case 3: a known primary opcode whose secondary fields match no instruction. -/
  | inert (r : Record)
  /-- Case 1: an unknown primary opcode. -/
  | unsupported (opcode : BitVec 7)
deriving DecidableEq, Repr

/-- R125: what a word is in an instruction set. -/
def decode (isa : Isa) (w : Word32) : Decoded :=
  match decodeRecord isa w with
  | none => .unsupported (primaryOpcode isa w)
  | some r =>
    match r.instr with
    | some i => .instr i
    | none => .inert r

/-- The instruction a word is in an instruction set, where it is one. -/
def decodeInstr (isa : Isa) (w : Word32) : Option Instr :=
  match decode isa w with
  | .instr i => some i
  | _ => none

/-- The words that are the bare pattern of a `MIPS64L` row of the opcode table, every operand bit 0, and as `RV64L` words
carry operands: those of `divu`, `div.s` and `div.d`. -/
def barePatterns : List Word32 := [0x0000009B, 0x46000003, 0x46200003]

/-- The instruction set an opcode-table word is read in. The two sets share no encoding (R10), but a word alone may be an
instruction of both: `RV64L` is tried first, but for three bare patterns.
DESIGN CHOICE (log entry 4). -/
def tableIsa (w : Word32) : Isa :=
  match decodeInstr .rv64l w with
  | some _ => if barePatterns.contains w then .mips64l else .rv64l
  | none => .mips64l

/-- The decoder's answer to an opcode-table word (log entry 4): the word is laid out in memory in a byte order, read back
in the same one (R83, R90) and decoded. -/
def decodeTableWord (nbits w : Nat) : Option Instr :=
  let word := BitVec.ofNat 32 (ofBytes .big (toBytes .big 4 (w % 2 ^ nbits)))
  decodeInstr (tableIsa word) word

/-! ## The encoder -/

/-- R112, R114: the word whose fields a record holds. -/
def Record.word : Record → Word32
  | .mipsR opcode rs rt rd shamt funct => opcode ++ rs ++ rt ++ rd ++ shamt ++ funct
  | .mipsI opcode rs rt imm16 => opcode ++ rs ++ rt ++ imm16
  | .mipsJ opcode index => opcode ++ index
  | .rvR funct7 rs2 rs1 funct3 rd opcode => funct7 ++ rs2 ++ rs1 ++ funct3 ++ rd ++ opcode
  | .rvI imm12 rs1 funct3 rd opcode => imm12 ++ rs1 ++ funct3 ++ rd ++ opcode
  | .rvS imm7 rs2 rs1 funct3 imm5 opcode => imm7 ++ rs2 ++ rs1 ++ funct3 ++ imm5 ++ opcode
  | .rvB imm7 rs2 rs1 funct3 imm5 opcode => imm7 ++ rs2 ++ rs1 ++ funct3 ++ imm5 ++ opcode
  | .rvU imm20 rd opcode => imm20 ++ rd ++ opcode
  | .rvJ imm20 rd opcode => imm20 ++ rd ++ opcode
  | .rvR4 rs3 funct2 rs2 rs1 funct3 rd opcode => rs3 ++ funct2 ++ rs2 ++ rs1 ++ funct3 ++ rd ++ opcode

/-- The record of an instruction, from the encoding its rule gives (spec/41 to spec/46). -/
def Instr.record : Instr → Record
  | .mipsAdd rs rt rd shamt => .mipsR 0b000000#6 rs rt rd shamt 0b100000#6
  | .mipsAddu rs rt rd shamt => .mipsR 0b000000#6 rs rt rd shamt 0b100001#6
  | .mipsSub rs rt rd shamt => .mipsR 0b000000#6 rs rt rd shamt 0b100010#6
  | .mipsSubu rs rt rd shamt => .mipsR 0b000000#6 rs rt rd shamt 0b100011#6
  | .mipsAnd rs rt rd shamt => .mipsR 0b000000#6 rs rt rd shamt 0b100100#6
  | .mipsOr rs rt rd shamt => .mipsR 0b000000#6 rs rt rd shamt 0b100101#6
  | .mipsXor rs rt rd shamt => .mipsR 0b000000#6 rs rt rd shamt 0b100110#6
  | .mipsNor rs rt rd shamt => .mipsR 0b000000#6 rs rt rd shamt 0b100111#6
  | .mipsSlt rs rt rd shamt => .mipsR 0b000000#6 rs rt rd shamt 0b101010#6
  | .mipsSltu rs rt rd shamt => .mipsR 0b000000#6 rs rt rd shamt 0b101011#6
  | .mipsDadd rs rt rd shamt => .mipsR 0b000000#6 rs rt rd shamt 0b101100#6
  | .mipsDaddu rs rt rd shamt => .mipsR 0b000000#6 rs rt rd shamt 0b101101#6
  | .mipsDsub rs rt rd shamt => .mipsR 0b000000#6 rs rt rd shamt 0b101110#6
  | .mipsDsubu rs rt rd shamt => .mipsR 0b000000#6 rs rt rd shamt 0b101111#6
  | .mipsSll rs rt rd sa => .mipsR 0b000000#6 rs rt rd sa 0b000000#6
  | .mipsSrl rs rt rd sa => .mipsR 0b000000#6 rs rt rd sa 0b000010#6
  | .mipsSra rs rt rd sa => .mipsR 0b000000#6 rs rt rd sa 0b000011#6
  | .mipsDsll rs rt rd sa => .mipsR 0b000000#6 rs rt rd sa 0b111000#6
  | .mipsDsrl rs rt rd sa => .mipsR 0b000000#6 rs rt rd sa 0b111010#6
  | .mipsDsra rs rt rd sa => .mipsR 0b000000#6 rs rt rd sa 0b111011#6
  | .mipsDsll32 rs rt rd sa => .mipsR 0b000000#6 rs rt rd sa 0b111100#6
  | .mipsDsrl32 rs rt rd sa => .mipsR 0b000000#6 rs rt rd sa 0b111110#6
  | .mipsDsra32 rs rt rd sa => .mipsR 0b000000#6 rs rt rd sa 0b111111#6
  | .mipsMul rs rt rd => .mipsR 0b000000#6 rs rt rd 0b00010#5 0b011000#6
  | .mipsMuh rs rt rd => .mipsR 0b000000#6 rs rt rd 0b00011#5 0b011000#6
  | .mipsMulu rs rt rd => .mipsR 0b000000#6 rs rt rd 0b00010#5 0b011001#6
  | .mipsMuhu rs rt rd => .mipsR 0b000000#6 rs rt rd 0b00011#5 0b011001#6
  | .mipsDiv rs rt rd => .mipsR 0b000000#6 rs rt rd 0b00010#5 0b011010#6
  | .mipsMod rs rt rd => .mipsR 0b000000#6 rs rt rd 0b00011#5 0b011010#6
  | .mipsDivu rs rt rd => .mipsR 0b000000#6 rs rt rd 0b00010#5 0b011011#6
  | .mipsModu rs rt rd => .mipsR 0b000000#6 rs rt rd 0b00011#5 0b011011#6
  | .mipsDmul rs rt rd => .mipsR 0b000000#6 rs rt rd 0b00010#5 0b011100#6
  | .mipsDmuh rs rt rd => .mipsR 0b000000#6 rs rt rd 0b00011#5 0b011100#6
  | .mipsDmulu rs rt rd => .mipsR 0b000000#6 rs rt rd 0b00010#5 0b011101#6
  | .mipsDmuhu rs rt rd => .mipsR 0b000000#6 rs rt rd 0b00011#5 0b011101#6
  | .mipsDdiv rs rt rd => .mipsR 0b000000#6 rs rt rd 0b00010#5 0b011110#6
  | .mipsDmod rs rt rd => .mipsR 0b000000#6 rs rt rd 0b00011#5 0b011110#6
  | .mipsDdivu rs rt rd => .mipsR 0b000000#6 rs rt rd 0b00010#5 0b011111#6
  | .mipsDmodu rs rt rd => .mipsR 0b000000#6 rs rt rd 0b00011#5 0b011111#6
  | .mipsAddi rs rt imm16 => .mipsI 0b001000#6 rs rt imm16
  | .mipsAddiu rs rt imm16 => .mipsI 0b001001#6 rs rt imm16
  | .mipsSlti rs rt imm16 => .mipsI 0b001010#6 rs rt imm16
  | .mipsSltiu rs rt imm16 => .mipsI 0b001011#6 rs rt imm16
  | .mipsAndi rs rt imm16 => .mipsI 0b001100#6 rs rt imm16
  | .mipsOri rs rt imm16 => .mipsI 0b001101#6 rs rt imm16
  | .mipsXori rs rt imm16 => .mipsI 0b001110#6 rs rt imm16
  | .mipsLui rs rt imm16 => .mipsI 0b001111#6 rs rt imm16
  | .mipsDaddi rs rt imm16 => .mipsI 0b011000#6 rs rt imm16
  | .mipsDaddiu rs rt imm16 => .mipsI 0b011001#6 rs rt imm16
  | .mipsLb base rt imm16 => .mipsI 0b100000#6 base rt imm16
  | .mipsLbu base rt imm16 => .mipsI 0b100100#6 base rt imm16
  | .mipsLh base rt imm16 => .mipsI 0b100001#6 base rt imm16
  | .mipsLhu base rt imm16 => .mipsI 0b100101#6 base rt imm16
  | .mipsLw base rt imm16 => .mipsI 0b100011#6 base rt imm16
  | .mipsLwu base rt imm16 => .mipsI 0b100111#6 base rt imm16
  | .mipsLd base rt imm16 => .mipsI 0b110111#6 base rt imm16
  | .mipsSb base rt imm16 => .mipsI 0b101000#6 base rt imm16
  | .mipsSh base rt imm16 => .mipsI 0b101001#6 base rt imm16
  | .mipsSw base rt imm16 => .mipsI 0b101011#6 base rt imm16
  | .mipsSd base rt imm16 => .mipsI 0b111111#6 base rt imm16
  | .mipsBeq rs rt imm16 => .mipsI 0b000100#6 rs rt imm16
  | .mipsBne rs rt imm16 => .mipsI 0b000101#6 rs rt imm16
  | .mipsJ index => .mipsJ 0b000010#6 index
  | .mipsJal index => .mipsJ 0b000011#6 index
  | .mipsJr rs rt rd shamt => .mipsR 0b000000#6 rs rt rd shamt 0b001000#6
  | .mipsJalr rs rt rd shamt => .mipsR 0b000000#6 rs rt rd shamt 0b001001#6
  | .mipsSyscall rs rt rd shamt => .mipsR 0b000000#6 rs rt rd shamt 0b001100#6
  | .mipsLwc1 base ft imm16 => .mipsI 0b110001#6 base ft imm16
  | .mipsLdc1 base ft imm16 => .mipsI 0b110101#6 base ft imm16
  | .mipsSwc1 base ft imm16 => .mipsI 0b111001#6 base ft imm16
  | .mipsSdc1 base ft imm16 => .mipsI 0b111101#6 base ft imm16
  | .mipsMfc1 rt fs shamt funct => .mipsR 0b010001#6 0b00000#5 rt fs shamt funct
  | .mipsDmfc1 rt fs shamt funct => .mipsR 0b010001#6 0b00001#5 rt fs shamt funct
  | .mipsMtc1 rt fs shamt funct => .mipsR 0b010001#6 0b00100#5 rt fs shamt funct
  | .mipsDmtc1 rt fs shamt funct => .mipsR 0b010001#6 0b00101#5 rt fs shamt funct
  | .mipsBc1f imm16 => .mipsI 0b010001#6 0b01000#5 0b00000#5 imm16
  | .mipsBc1t imm16 => .mipsI 0b010001#6 0b01000#5 0b00001#5 imm16
  | .mipsAddS ft fs fd => .mipsR 0b010001#6 0b10000#5 ft fs fd 0b000000#6
  | .mipsAddD ft fs fd => .mipsR 0b010001#6 0b10001#5 ft fs fd 0b000000#6
  | .mipsSubS ft fs fd => .mipsR 0b010001#6 0b10000#5 ft fs fd 0b000001#6
  | .mipsSubD ft fs fd => .mipsR 0b010001#6 0b10001#5 ft fs fd 0b000001#6
  | .mipsMulS ft fs fd => .mipsR 0b010001#6 0b10000#5 ft fs fd 0b000010#6
  | .mipsMulD ft fs fd => .mipsR 0b010001#6 0b10001#5 ft fs fd 0b000010#6
  | .mipsDivS ft fs fd => .mipsR 0b010001#6 0b10000#5 ft fs fd 0b000011#6
  | .mipsDivD ft fs fd => .mipsR 0b010001#6 0b10001#5 ft fs fd 0b000011#6
  | .mipsSqrtS fs fd => .mipsR 0b010001#6 0b10000#5 0b00000#5 fs fd 0b000100#6
  | .mipsSqrtD fs fd => .mipsR 0b010001#6 0b10001#5 0b00000#5 fs fd 0b000100#6
  | .mipsCEqS ft fs => .mipsR 0b010001#6 0b10000#5 ft fs 0b00000#5 0b110010#6
  | .mipsCEqD ft fs => .mipsR 0b010001#6 0b10001#5 ft fs 0b00000#5 0b110010#6
  | .mipsCLtS ft fs => .mipsR 0b010001#6 0b10000#5 ft fs 0b00000#5 0b111100#6
  | .mipsCLtD ft fs => .mipsR 0b010001#6 0b10001#5 ft fs 0b00000#5 0b111100#6
  | .mipsCLeS ft fs => .mipsR 0b010001#6 0b10000#5 ft fs 0b00000#5 0b111110#6
  | .mipsCLeD ft fs => .mipsR 0b010001#6 0b10001#5 ft fs 0b00000#5 0b111110#6
  | .rvLui imm20 rd => .rvU imm20 rd 0b0110111#7
  | .rvAuipc imm20 rd => .rvU imm20 rd 0b0010111#7
  | .rvAddi imm12 rs1 rd => .rvI imm12 rs1 0b000#3 rd 0b0010011#7
  | .rvSlti imm12 rs1 rd => .rvI imm12 rs1 0b010#3 rd 0b0010011#7
  | .rvSltiu imm12 rs1 rd => .rvI imm12 rs1 0b011#3 rd 0b0010011#7
  | .rvXori imm12 rs1 rd => .rvI imm12 rs1 0b100#3 rd 0b0010011#7
  | .rvOri imm12 rs1 rd => .rvI imm12 rs1 0b110#3 rd 0b0010011#7
  | .rvAndi imm12 rs1 rd => .rvI imm12 rs1 0b111#3 rd 0b0010011#7
  | .rvSlli shamt rs1 rd => .rvI (0b000000#6 ++ shamt) rs1 0b001#3 rd 0b0010011#7
  | .rvSrli shamt rs1 rd => .rvI (0b000000#6 ++ shamt) rs1 0b101#3 rd 0b0010011#7
  | .rvSrai shamt rs1 rd => .rvI (0b010000#6 ++ shamt) rs1 0b101#3 rd 0b0010011#7
  | .rvAddiw imm12 rs1 rd => .rvI imm12 rs1 0b000#3 rd 0b0011011#7
  | .rvSlliw shamt rs1 rd => .rvI (0b0000000#7 ++ shamt) rs1 0b001#3 rd 0b0011011#7
  | .rvSrliw shamt rs1 rd => .rvI (0b0000000#7 ++ shamt) rs1 0b101#3 rd 0b0011011#7
  | .rvSraiw shamt rs1 rd => .rvI (0b0100000#7 ++ shamt) rs1 0b101#3 rd 0b0011011#7
  | .rvAdd rs2 rs1 rd => .rvR 0b0000000#7 rs2 rs1 0b000#3 rd 0b0110011#7
  | .rvSub rs2 rs1 rd => .rvR 0b0100000#7 rs2 rs1 0b000#3 rd 0b0110011#7
  | .rvSll rs2 rs1 rd => .rvR 0b0000000#7 rs2 rs1 0b001#3 rd 0b0110011#7
  | .rvSlt rs2 rs1 rd => .rvR 0b0000000#7 rs2 rs1 0b010#3 rd 0b0110011#7
  | .rvSltu rs2 rs1 rd => .rvR 0b0000000#7 rs2 rs1 0b011#3 rd 0b0110011#7
  | .rvXor rs2 rs1 rd => .rvR 0b0000000#7 rs2 rs1 0b100#3 rd 0b0110011#7
  | .rvSrl rs2 rs1 rd => .rvR 0b0000000#7 rs2 rs1 0b101#3 rd 0b0110011#7
  | .rvSra rs2 rs1 rd => .rvR 0b0100000#7 rs2 rs1 0b101#3 rd 0b0110011#7
  | .rvOr rs2 rs1 rd => .rvR 0b0000000#7 rs2 rs1 0b110#3 rd 0b0110011#7
  | .rvAnd rs2 rs1 rd => .rvR 0b0000000#7 rs2 rs1 0b111#3 rd 0b0110011#7
  | .rvAddw rs2 rs1 rd => .rvR 0b0000000#7 rs2 rs1 0b000#3 rd 0b0111011#7
  | .rvSubw rs2 rs1 rd => .rvR 0b0100000#7 rs2 rs1 0b000#3 rd 0b0111011#7
  | .rvSllw rs2 rs1 rd => .rvR 0b0000000#7 rs2 rs1 0b001#3 rd 0b0111011#7
  | .rvSrlw rs2 rs1 rd => .rvR 0b0000000#7 rs2 rs1 0b101#3 rd 0b0111011#7
  | .rvSraw rs2 rs1 rd => .rvR 0b0100000#7 rs2 rs1 0b101#3 rd 0b0111011#7
  | .rvMul rs2 rs1 rd => .rvR 0b0000001#7 rs2 rs1 0b000#3 rd 0b0110011#7
  | .rvMulh rs2 rs1 rd => .rvR 0b0000001#7 rs2 rs1 0b001#3 rd 0b0110011#7
  | .rvMulhsu rs2 rs1 rd => .rvR 0b0000001#7 rs2 rs1 0b010#3 rd 0b0110011#7
  | .rvMulhu rs2 rs1 rd => .rvR 0b0000001#7 rs2 rs1 0b011#3 rd 0b0110011#7
  | .rvDiv rs2 rs1 rd => .rvR 0b0000001#7 rs2 rs1 0b100#3 rd 0b0110011#7
  | .rvDivu rs2 rs1 rd => .rvR 0b0000001#7 rs2 rs1 0b101#3 rd 0b0110011#7
  | .rvRem rs2 rs1 rd => .rvR 0b0000001#7 rs2 rs1 0b110#3 rd 0b0110011#7
  | .rvRemu rs2 rs1 rd => .rvR 0b0000001#7 rs2 rs1 0b111#3 rd 0b0110011#7
  | .rvMulw rs2 rs1 rd => .rvR 0b0000001#7 rs2 rs1 0b000#3 rd 0b0111011#7
  | .rvDivw rs2 rs1 rd => .rvR 0b0000001#7 rs2 rs1 0b100#3 rd 0b0111011#7
  | .rvDivuw rs2 rs1 rd => .rvR 0b0000001#7 rs2 rs1 0b101#3 rd 0b0111011#7
  | .rvRemw rs2 rs1 rd => .rvR 0b0000001#7 rs2 rs1 0b110#3 rd 0b0111011#7
  | .rvRemuw rs2 rs1 rd => .rvR 0b0000001#7 rs2 rs1 0b111#3 rd 0b0111011#7
  | .rvLb imm12 rs1 rd => .rvI imm12 rs1 0b000#3 rd 0b0000011#7
  | .rvLh imm12 rs1 rd => .rvI imm12 rs1 0b001#3 rd 0b0000011#7
  | .rvLw imm12 rs1 rd => .rvI imm12 rs1 0b010#3 rd 0b0000011#7
  | .rvLd imm12 rs1 rd => .rvI imm12 rs1 0b011#3 rd 0b0000011#7
  | .rvLbu imm12 rs1 rd => .rvI imm12 rs1 0b100#3 rd 0b0000011#7
  | .rvLhu imm12 rs1 rd => .rvI imm12 rs1 0b101#3 rd 0b0000011#7
  | .rvLwu imm12 rs1 rd => .rvI imm12 rs1 0b110#3 rd 0b0000011#7
  | .rvSb imm7 rs2 rs1 imm5 => .rvS imm7 rs2 rs1 0b000#3 imm5 0b0100011#7
  | .rvSh imm7 rs2 rs1 imm5 => .rvS imm7 rs2 rs1 0b001#3 imm5 0b0100011#7
  | .rvSw imm7 rs2 rs1 imm5 => .rvS imm7 rs2 rs1 0b010#3 imm5 0b0100011#7
  | .rvSd imm7 rs2 rs1 imm5 => .rvS imm7 rs2 rs1 0b011#3 imm5 0b0100011#7
  | .rvBeq imm7 rs2 rs1 imm5 => .rvB imm7 rs2 rs1 0b000#3 imm5 0b1100011#7
  | .rvBne imm7 rs2 rs1 imm5 => .rvB imm7 rs2 rs1 0b001#3 imm5 0b1100011#7
  | .rvBlt imm7 rs2 rs1 imm5 => .rvB imm7 rs2 rs1 0b100#3 imm5 0b1100011#7
  | .rvBge imm7 rs2 rs1 imm5 => .rvB imm7 rs2 rs1 0b101#3 imm5 0b1100011#7
  | .rvBltu imm7 rs2 rs1 imm5 => .rvB imm7 rs2 rs1 0b110#3 imm5 0b1100011#7
  | .rvBgeu imm7 rs2 rs1 imm5 => .rvB imm7 rs2 rs1 0b111#3 imm5 0b1100011#7
  | .rvJal imm20 rd => .rvJ imm20 rd 0b1101111#7
  | .rvJalr imm12 rs1 rd => .rvI imm12 rs1 0b000#3 rd 0b1100111#7
  | .rvEcall rs1 rd => .rvI 0b000000000000#12 rs1 0b000#3 rd 0b1110011#7
  | .rvFlw imm12 rs1 fd => .rvI imm12 rs1 0b010#3 fd 0b0000111#7
  | .rvFld imm12 rs1 fd => .rvI imm12 rs1 0b011#3 fd 0b0000111#7
  | .rvFsw imm7 fs2 rs1 imm5 => .rvS imm7 fs2 rs1 0b010#3 imm5 0b0100111#7
  | .rvFsd imm7 fs2 rs1 imm5 => .rvS imm7 fs2 rs1 0b011#3 imm5 0b0100111#7
  | .rvFaddS fs2 fs1 rm fd => .rvR 0b0000000#7 fs2 fs1 rm fd 0b1010011#7
  | .rvFaddD fs2 fs1 rm fd => .rvR 0b0000001#7 fs2 fs1 rm fd 0b1010011#7
  | .rvFsubS fs2 fs1 rm fd => .rvR 0b0000100#7 fs2 fs1 rm fd 0b1010011#7
  | .rvFsubD fs2 fs1 rm fd => .rvR 0b0000101#7 fs2 fs1 rm fd 0b1010011#7
  | .rvFmulS fs2 fs1 rm fd => .rvR 0b0001000#7 fs2 fs1 rm fd 0b1010011#7
  | .rvFmulD fs2 fs1 rm fd => .rvR 0b0001001#7 fs2 fs1 rm fd 0b1010011#7
  | .rvFdivS fs2 fs1 rm fd => .rvR 0b0001100#7 fs2 fs1 rm fd 0b1010011#7
  | .rvFdivD fs2 fs1 rm fd => .rvR 0b0001101#7 fs2 fs1 rm fd 0b1010011#7
  | .rvFsqrtS fs1 rm fd => .rvR 0b0101100#7 0b00000#5 fs1 rm fd 0b1010011#7
  | .rvFsqrtD fs1 rm fd => .rvR 0b0101101#7 0b00000#5 fs1 rm fd 0b1010011#7
  | .rvFsgnjS fs2 fs1 fd => .rvR 0b0010000#7 fs2 fs1 0b000#3 fd 0b1010011#7
  | .rvFsgnjD fs2 fs1 fd => .rvR 0b0010001#7 fs2 fs1 0b000#3 fd 0b1010011#7
  | .rvFsgnjnS fs2 fs1 fd => .rvR 0b0010000#7 fs2 fs1 0b001#3 fd 0b1010011#7
  | .rvFsgnjnD fs2 fs1 fd => .rvR 0b0010001#7 fs2 fs1 0b001#3 fd 0b1010011#7
  | .rvFsgnjxS fs2 fs1 fd => .rvR 0b0010000#7 fs2 fs1 0b010#3 fd 0b1010011#7
  | .rvFsgnjxD fs2 fs1 fd => .rvR 0b0010001#7 fs2 fs1 0b010#3 fd 0b1010011#7
  | .rvFminS fs2 fs1 fd => .rvR 0b0010100#7 fs2 fs1 0b000#3 fd 0b1010011#7
  | .rvFminD fs2 fs1 fd => .rvR 0b0010101#7 fs2 fs1 0b000#3 fd 0b1010011#7
  | .rvFmaxS fs2 fs1 fd => .rvR 0b0010100#7 fs2 fs1 0b001#3 fd 0b1010011#7
  | .rvFmaxD fs2 fs1 fd => .rvR 0b0010101#7 fs2 fs1 0b001#3 fd 0b1010011#7
  | .rvFeqS fs2 fs1 rd => .rvR 0b1010000#7 fs2 fs1 0b010#3 rd 0b1010011#7
  | .rvFeqD fs2 fs1 rd => .rvR 0b1010001#7 fs2 fs1 0b010#3 rd 0b1010011#7
  | .rvFltS fs2 fs1 rd => .rvR 0b1010000#7 fs2 fs1 0b001#3 rd 0b1010011#7
  | .rvFltD fs2 fs1 rd => .rvR 0b1010001#7 fs2 fs1 0b001#3 rd 0b1010011#7
  | .rvFleS fs2 fs1 rd => .rvR 0b1010000#7 fs2 fs1 0b000#3 rd 0b1010011#7
  | .rvFleD fs2 fs1 rd => .rvR 0b1010001#7 fs2 fs1 0b000#3 rd 0b1010011#7
  | .rvFclassS fs1 rd => .rvR 0b1110000#7 0b00000#5 fs1 0b001#3 rd 0b1010011#7
  | .rvFclassD fs1 rd => .rvR 0b1110001#7 0b00000#5 fs1 0b001#3 rd 0b1010011#7
  | .rvFmvXW fs1 rd => .rvR 0b1110000#7 0b00000#5 fs1 0b000#3 rd 0b1010011#7
  | .rvFmvXD fs1 rd => .rvR 0b1110001#7 0b00000#5 fs1 0b000#3 rd 0b1010011#7
  | .rvFmvWX rs1 fd => .rvR 0b1111000#7 0b00000#5 rs1 0b000#3 fd 0b1010011#7
  | .rvFmvDX rs1 fd => .rvR 0b1111001#7 0b00000#5 rs1 0b000#3 fd 0b1010011#7
  | .rvFmaddS fs3 fs2 fs1 rm fd => .rvR4 fs3 0b00#2 fs2 fs1 rm fd 0b1000011#7
  | .rvFmaddD fs3 fs2 fs1 rm fd => .rvR4 fs3 0b01#2 fs2 fs1 rm fd 0b1000011#7
  | .rvFmsubS fs3 fs2 fs1 rm fd => .rvR4 fs3 0b00#2 fs2 fs1 rm fd 0b1000111#7
  | .rvFmsubD fs3 fs2 fs1 rm fd => .rvR4 fs3 0b01#2 fs2 fs1 rm fd 0b1000111#7
  | .rvFnmsubS fs3 fs2 fs1 rm fd => .rvR4 fs3 0b00#2 fs2 fs1 rm fd 0b1001011#7
  | .rvFnmsubD fs3 fs2 fs1 rm fd => .rvR4 fs3 0b01#2 fs2 fs1 rm fd 0b1001011#7
  | .rvFnmaddS fs3 fs2 fs1 rm fd => .rvR4 fs3 0b00#2 fs2 fs1 rm fd 0b1001111#7
  | .rvFnmaddD fs3 fs2 fs1 rm fd => .rvR4 fs3 0b01#2 fs2 fs1 rm fd 0b1001111#7

/-- The instruction set an instruction belongs to. -/
def Instr.isa : Instr → Isa
  | .mipsAdd .. => .mips64l
  | .mipsAddu .. => .mips64l
  | .mipsSub .. => .mips64l
  | .mipsSubu .. => .mips64l
  | .mipsAnd .. => .mips64l
  | .mipsOr .. => .mips64l
  | .mipsXor .. => .mips64l
  | .mipsNor .. => .mips64l
  | .mipsSlt .. => .mips64l
  | .mipsSltu .. => .mips64l
  | .mipsDadd .. => .mips64l
  | .mipsDaddu .. => .mips64l
  | .mipsDsub .. => .mips64l
  | .mipsDsubu .. => .mips64l
  | .mipsSll .. => .mips64l
  | .mipsSrl .. => .mips64l
  | .mipsSra .. => .mips64l
  | .mipsDsll .. => .mips64l
  | .mipsDsrl .. => .mips64l
  | .mipsDsra .. => .mips64l
  | .mipsDsll32 .. => .mips64l
  | .mipsDsrl32 .. => .mips64l
  | .mipsDsra32 .. => .mips64l
  | .mipsMul .. => .mips64l
  | .mipsMuh .. => .mips64l
  | .mipsMulu .. => .mips64l
  | .mipsMuhu .. => .mips64l
  | .mipsDiv .. => .mips64l
  | .mipsMod .. => .mips64l
  | .mipsDivu .. => .mips64l
  | .mipsModu .. => .mips64l
  | .mipsDmul .. => .mips64l
  | .mipsDmuh .. => .mips64l
  | .mipsDmulu .. => .mips64l
  | .mipsDmuhu .. => .mips64l
  | .mipsDdiv .. => .mips64l
  | .mipsDmod .. => .mips64l
  | .mipsDdivu .. => .mips64l
  | .mipsDmodu .. => .mips64l
  | .mipsAddi .. => .mips64l
  | .mipsAddiu .. => .mips64l
  | .mipsSlti .. => .mips64l
  | .mipsSltiu .. => .mips64l
  | .mipsAndi .. => .mips64l
  | .mipsOri .. => .mips64l
  | .mipsXori .. => .mips64l
  | .mipsLui .. => .mips64l
  | .mipsDaddi .. => .mips64l
  | .mipsDaddiu .. => .mips64l
  | .mipsLb .. => .mips64l
  | .mipsLbu .. => .mips64l
  | .mipsLh .. => .mips64l
  | .mipsLhu .. => .mips64l
  | .mipsLw .. => .mips64l
  | .mipsLwu .. => .mips64l
  | .mipsLd .. => .mips64l
  | .mipsSb .. => .mips64l
  | .mipsSh .. => .mips64l
  | .mipsSw .. => .mips64l
  | .mipsSd .. => .mips64l
  | .mipsBeq .. => .mips64l
  | .mipsBne .. => .mips64l
  | .mipsJ .. => .mips64l
  | .mipsJal .. => .mips64l
  | .mipsJr .. => .mips64l
  | .mipsJalr .. => .mips64l
  | .mipsSyscall .. => .mips64l
  | .mipsLwc1 .. => .mips64l
  | .mipsLdc1 .. => .mips64l
  | .mipsSwc1 .. => .mips64l
  | .mipsSdc1 .. => .mips64l
  | .mipsMfc1 .. => .mips64l
  | .mipsDmfc1 .. => .mips64l
  | .mipsMtc1 .. => .mips64l
  | .mipsDmtc1 .. => .mips64l
  | .mipsBc1f .. => .mips64l
  | .mipsBc1t .. => .mips64l
  | .mipsAddS .. => .mips64l
  | .mipsAddD .. => .mips64l
  | .mipsSubS .. => .mips64l
  | .mipsSubD .. => .mips64l
  | .mipsMulS .. => .mips64l
  | .mipsMulD .. => .mips64l
  | .mipsDivS .. => .mips64l
  | .mipsDivD .. => .mips64l
  | .mipsSqrtS .. => .mips64l
  | .mipsSqrtD .. => .mips64l
  | .mipsCEqS .. => .mips64l
  | .mipsCEqD .. => .mips64l
  | .mipsCLtS .. => .mips64l
  | .mipsCLtD .. => .mips64l
  | .mipsCLeS .. => .mips64l
  | .mipsCLeD .. => .mips64l
  | .rvLui .. => .rv64l
  | .rvAuipc .. => .rv64l
  | .rvAddi .. => .rv64l
  | .rvSlti .. => .rv64l
  | .rvSltiu .. => .rv64l
  | .rvXori .. => .rv64l
  | .rvOri .. => .rv64l
  | .rvAndi .. => .rv64l
  | .rvSlli .. => .rv64l
  | .rvSrli .. => .rv64l
  | .rvSrai .. => .rv64l
  | .rvAddiw .. => .rv64l
  | .rvSlliw .. => .rv64l
  | .rvSrliw .. => .rv64l
  | .rvSraiw .. => .rv64l
  | .rvAdd .. => .rv64l
  | .rvSub .. => .rv64l
  | .rvSll .. => .rv64l
  | .rvSlt .. => .rv64l
  | .rvSltu .. => .rv64l
  | .rvXor .. => .rv64l
  | .rvSrl .. => .rv64l
  | .rvSra .. => .rv64l
  | .rvOr .. => .rv64l
  | .rvAnd .. => .rv64l
  | .rvAddw .. => .rv64l
  | .rvSubw .. => .rv64l
  | .rvSllw .. => .rv64l
  | .rvSrlw .. => .rv64l
  | .rvSraw .. => .rv64l
  | .rvMul .. => .rv64l
  | .rvMulh .. => .rv64l
  | .rvMulhsu .. => .rv64l
  | .rvMulhu .. => .rv64l
  | .rvDiv .. => .rv64l
  | .rvDivu .. => .rv64l
  | .rvRem .. => .rv64l
  | .rvRemu .. => .rv64l
  | .rvMulw .. => .rv64l
  | .rvDivw .. => .rv64l
  | .rvDivuw .. => .rv64l
  | .rvRemw .. => .rv64l
  | .rvRemuw .. => .rv64l
  | .rvLb .. => .rv64l
  | .rvLh .. => .rv64l
  | .rvLw .. => .rv64l
  | .rvLd .. => .rv64l
  | .rvLbu .. => .rv64l
  | .rvLhu .. => .rv64l
  | .rvLwu .. => .rv64l
  | .rvSb .. => .rv64l
  | .rvSh .. => .rv64l
  | .rvSw .. => .rv64l
  | .rvSd .. => .rv64l
  | .rvBeq .. => .rv64l
  | .rvBne .. => .rv64l
  | .rvBlt .. => .rv64l
  | .rvBge .. => .rv64l
  | .rvBltu .. => .rv64l
  | .rvBgeu .. => .rv64l
  | .rvJal .. => .rv64l
  | .rvJalr .. => .rv64l
  | .rvEcall .. => .rv64l
  | .rvFlw .. => .rv64l
  | .rvFld .. => .rv64l
  | .rvFsw .. => .rv64l
  | .rvFsd .. => .rv64l
  | .rvFaddS .. => .rv64l
  | .rvFaddD .. => .rv64l
  | .rvFsubS .. => .rv64l
  | .rvFsubD .. => .rv64l
  | .rvFmulS .. => .rv64l
  | .rvFmulD .. => .rv64l
  | .rvFdivS .. => .rv64l
  | .rvFdivD .. => .rv64l
  | .rvFsqrtS .. => .rv64l
  | .rvFsqrtD .. => .rv64l
  | .rvFsgnjS .. => .rv64l
  | .rvFsgnjD .. => .rv64l
  | .rvFsgnjnS .. => .rv64l
  | .rvFsgnjnD .. => .rv64l
  | .rvFsgnjxS .. => .rv64l
  | .rvFsgnjxD .. => .rv64l
  | .rvFminS .. => .rv64l
  | .rvFminD .. => .rv64l
  | .rvFmaxS .. => .rv64l
  | .rvFmaxD .. => .rv64l
  | .rvFeqS .. => .rv64l
  | .rvFeqD .. => .rv64l
  | .rvFltS .. => .rv64l
  | .rvFltD .. => .rv64l
  | .rvFleS .. => .rv64l
  | .rvFleD .. => .rv64l
  | .rvFclassS .. => .rv64l
  | .rvFclassD .. => .rv64l
  | .rvFmvXW .. => .rv64l
  | .rvFmvXD .. => .rv64l
  | .rvFmvWX .. => .rv64l
  | .rvFmvDX .. => .rv64l
  | .rvFmaddS .. => .rv64l
  | .rvFmaddD .. => .rv64l
  | .rvFmsubS .. => .rv64l
  | .rvFmsubD .. => .rv64l
  | .rvFnmsubS .. => .rv64l
  | .rvFnmsubD .. => .rv64l
  | .rvFnmaddS .. => .rv64l
  | .rvFnmaddD .. => .rv64l

/-- The word of an instruction. -/
def encode (i : Instr) : Word32 := i.record.word

end Sys2Proof
end

