-- ==== Sys2Proof/Machine/Alu.lean ====
section
/-! DEFINITION. The integer ALU of spec/40_datapath.md (R190 to R199): total, without state, raising nothing. A `…32`
operation reads only the low 32 bits of its operands (R199) and sign-extends its result. -/

namespace Sys2Proof.Machine

/-- R190: the low 32 bits of an operand. -/
def low32 (v : Word) : Word32 := v.setWidth 32

/-- R18, R199: a 32-bit result sign-extended to 64 bits. -/
def ext32 (v : Word32) : Word := v.signExtend 64

/-- R196: bits `2n-1:n` of the two's-complement value of an exact product. -/
def highHalf (n : Nat) (p : Int) : BitVec n := (BitVec.ofInt (2 * n) p).extractLsb' n n

/-- R197, R198: signed division rounded toward zero, with the zero divisor and the overflow case. -/
def divSigned {n : Nat} (a b : BitVec n) : BitVec n :=
  if b = 0 then BitVec.allOnes n
  else if a = BitVec.intMin n ∧ b = BitVec.allOnes n then a
  else BitVec.ofInt n (a.toInt.tdiv b.toInt)

/-- R197, R198: the remainder of `divSigned`. -/
def remSigned {n : Nat} (a b : BitVec n) : BitVec n :=
  if b = 0 then a
  else if a = BitVec.intMin n ∧ b = BitVec.allOnes n then 0
  else BitVec.ofInt n (a.toInt.tmod b.toInt)

/-- R197, R198: unsigned division, "unsigned division truncates toward zero". -/
def divUnsigned {n : Nat} (a b : BitVec n) : BitVec n :=
  if b = 0 then BitVec.allOnes n else BitVec.ofNat n (a.toNat / b.toNat)

/-- R197, R198: the remainder of `divUnsigned`. -/
def remUnsigned {n : Nat} (a b : BitVec n) : BitVec n :=
  if b = 0 then a else BitVec.ofNat n (a.toNat % b.toNat)

/-- R190: `ALU(op, a, b)`. -/
def alu (op : AluOp) (a b : Word) : Word :=
  match op with
  -- R191
  | .aluNop => 0
  | .add64 => a + b
  | .sub64 => a - b
  | .add32 => ext32 (low32 a + low32 b)
  | .sub32 => ext32 (low32 a - low32 b)
  -- R192
  | .and => a &&& b
  | .or => a ||| b
  | .xor => a ^^^ b
  | .nor => ~~~(a ||| b)
  -- R193
  | .slt => boolWord (decide (a.toInt < b.toInt))
  | .sltu => boolWord (decide (a.toNat < b.toNat))
  -- R194
  | .sll64 n => a <<< n.toNat
  | .srl64 n => a >>> n.toNat
  | .sra64 n => a.sshiftRight n.toNat
  | .sll32 n => ext32 (low32 a <<< n.toNat)
  | .srl32 n => ext32 (low32 a >>> n.toNat)
  | .sra32 n => ext32 ((low32 a).sshiftRight n.toNat)
  -- R195
  | .sllV64 => a <<< (b.extractLsb' 0 6).toNat
  | .srlV64 => a >>> (b.extractLsb' 0 6).toNat
  | .sraV64 => a.sshiftRight (b.extractLsb' 0 6).toNat
  | .sllV32 => ext32 (low32 a <<< (b.extractLsb' 0 5).toNat)
  | .srlV32 => ext32 (low32 a >>> (b.extractLsb' 0 5).toNat)
  | .sraV32 => ext32 ((low32 a).sshiftRight (b.extractLsb' 0 5).toNat)
  -- R196
  | .mul64 => BitVec.ofNat 64 (a.toNat * b.toNat)
  | .mulh64 => highHalf 64 (a.toInt * b.toInt)
  | .mulhsu64 => highHalf 64 (a.toInt * (b.toNat : Int))
  | .mulhu64 => highHalf 64 ((a.toNat : Int) * (b.toNat : Int))
  | .mul32 => ext32 (BitVec.ofNat 32 ((low32 a).toNat * (low32 b).toNat))
  | .mulh32 => ext32 (highHalf 32 ((low32 a).toInt * (low32 b).toInt))
  | .mulhu32 => ext32 (highHalf 32 (((low32 a).toNat : Int) * ((low32 b).toNat : Int)))
  -- R197
  | .div64 => divSigned a b
  | .rem64 => remSigned a b
  | .divu64 => divUnsigned a b
  | .remu64 => remUnsigned a b
  -- R198
  | .div32 => ext32 (divSigned (low32 a) (low32 b))
  | .rem32 => ext32 (remSigned (low32 a) (low32 b))
  | .divu32 => ext32 (divUnsigned (low32 a) (low32 b))
  | .remu32 => ext32 (remUnsigned (low32 a) (low32 b))

end Sys2Proof.Machine
end

