-- ==== Sys2Proof/Machine/FpNumerics.lean ====
section
/-! DEFINITION. The floating-point functions of spec/47_fp_numerics.md (R640 to R676). A finite value is held as a sign and
a natural number of units, the unit of a format being its smallest subnormal `2^(emin-p+1)`: sums, products, quotients and
roots are then exact before the one rounding. Everything is structural, so the kernel can evaluate it. -/

namespace Sys2Proof.Machine

/-! ## Formats (R640) -/

/-- R640: the number of fraction bits, `p - 1`. -/
def FpWidth.fracBits : FpWidth → Nat
  | .word => 23
  | .double => 52

/-- R640: the number of exponent bits. -/
def FpWidth.expBits : FpWidth → Nat
  | .word => 8
  | .double => 11

/-- R640: the precision `p`. -/
def FpWidth.precision (w : FpWidth) : Nat := w.fracBits + 1

/-- R640, R641: a value of 1 is `2^unitExp` units: `unitExp = p - 1 - emin`. -/
def FpWidth.unitExp : FpWidth → Nat
  | .word => 149
  | .double => 1074

/-- The sign bit's weight. -/
def FpWidth.signWeight (w : FpWidth) : Nat := 2 ^ (w.expBits + w.fracBits)

/-- The encoding of `+inf`, which is one more than that of `MAXFIN` (R644). -/
def FpWidth.infMag (w : FpWidth) : Nat := (2 ^ w.expBits - 1) * 2 ^ w.fracBits

/-- R643: the bits of a register a width selects. -/
def FpWidth.select (w : FpWidth) (v : Word) : Nat :=
  match w with
  | .word => v.toNat % 2 ^ 32
  | .double => v.toNat

/-- R640: the sign of an encoding. -/
def fpSign (w : FpWidth) (v : Word) : Bool := w.select v / w.signWeight == 1

/-- R665: all bits of an encoding but the sign, `mag(A)`. -/
def fpMag (w : FpWidth) (v : Word) : Nat := w.select v % w.signWeight

/-- The register value of an encoding given by its sign and its other bits; a word-width one is zero-extended (R643). -/
def fpOfMag (w : FpWidth) (neg : Bool) (mag : Nat) : Word :=
  BitVec.ofNat 64 ((if neg then w.signWeight else 0) + mag)

/-! ## Values (R641) -/

/-- R641: what an encoding stands for. -/
inductive FpVal where
  /-- A NaN, quiet or signaling. -/
  | nan (quiet : Bool)
  /-- An infinity. -/
  | inf (neg : Bool)
  /-- A finite value, `units` times the format's unit; a zero has a sign. -/
  | fin (neg : Bool) (units : Nat)
deriving DecidableEq, Repr

/-- R641: the units of a finite encoding's magnitude bits: `F` for a zero or a subnormal, `(2^(p-1) + F) * 2^(E-1)` for a
normal. -/
def unitsOf (w : FpWidth) (mag : Nat) : Nat :=
  if mag / 2 ^ w.fracBits = 0 then mag % 2 ^ w.fracBits
  else (2 ^ w.fracBits + mag % 2 ^ w.fracBits) * 2 ^ (mag / 2 ^ w.fracBits - 1)

/-- R641: `val(v)`, NaNs and infinities included. -/
def fpVal (w : FpWidth) (v : Word) : FpVal :=
  if fpMag w v < w.infMag then .fin (fpSign w v) (unitsOf w (fpMag w v))
  else if fpMag w v = w.infMag then .inf (fpSign w v)
  else .nan (decide (w.infMag + 2 ^ (w.fracBits - 1) ≤ fpMag w v))

/-- R642: the canonical NaN. -/
def cnan (w : FpWidth) : Word := fpOfMag w false (w.infMag + 2 ^ (w.fracBits - 1))

/-- The infinity of a sign. -/
def fpInf (w : FpWidth) (neg : Bool) : Word := fpOfMag w neg w.infMag

/-- The zero of a sign. -/
def fpZero (w : FpWidth) (neg : Bool) : Word := fpOfMag w neg 0

/-- A signed number of units. -/
def signedUnits (neg : Bool) (units : Nat) : Int := if neg then -(units : Int) else (units : Int)

/-- R650, R667: the sign of an exact zero sum: `+0`, except `-0` when rounding down. -/
def zeroSumSign (rm : Round) : Bool := decide (rm = .rdn)

/-! ## Rounding (R644) -/

/-- R644: whether the neighbour of larger magnitude is chosen, given the neighbour `m` of smaller magnitude, how the exact
value stands to the midpoint of the two and whether it is `m` itself. -/
def roundsAway (rm : Round) (neg : Bool) (m : Nat) (half : Ordering) (exact : Bool) : Bool :=
  match rm with
  | .rne => half == .gt || (half == .eq && m % 2 == 1)
  | .rtz => false
  | .rdn => neg && !exact
  | .rup => !neg && !exact
  | .rmm => half != .lt

/-- R644: whether an overflowing value becomes an infinity, and not `MAXFIN`. -/
def overflowsToInf (rm : Round) (neg : Bool) : Bool :=
  match rm with
  | .rne => true
  | .rtz => false
  | .rdn => neg
  | .rup => !neg
  | .rmm => true

/-- R644: the encoding of the chosen neighbour. The neighbour of smaller magnitude is `m * 2^q` units, and the magnitude
bits of that value are `q * 2^(p-1) + m`; the next magnitude up has the next bits, and from `infMag` on it is above
`MAXFIN`. -/
def roundPack (w : FpWidth) (rm : Round) (neg : Bool) (q m : Nat) (half : Ordering) (exact : Bool) : Word :=
  let bits := q * 2 ^ w.fracBits + m + (if roundsAway rm neg m half exact then 1 else 0)
  if bits < w.infMag then fpOfMag w neg bits
  else if overflowsToInf rm neg then fpInf w neg
  else fpOfMag w neg (w.infMag - 1)

/-- R644: the exponent `q` of the spacing `2^q` units of the numbers of precision `p` around a value of `t` whole units. -/
def quantum (w : FpWidth) (t : Nat) : Nat := Nat.log2 t + 1 - w.precision

/-- R644: `round(w, rm, r)` for `|r| = num / den` units. -/
def roundRatio (w : FpWidth) (rm : Round) (neg : Bool) (num den : Nat) : Word :=
  let q := quantum w (num / den)
  let d := den * 2 ^ q
  roundPack w rm neg q (num / d) (compare (2 * (num % d)) d) (num % d == 0)

/-- One bit of a square root a round, the highest first. -/
def isqrtFrom (n : Nat) : Nat → Nat → Nat
  | 0, r => r
  | i + 1, r => isqrtFrom n i (if (r + 2 ^ i) * (r + 2 ^ i) ≤ n then r + 2 ^ i else r)

/-- The integer square root. -/
def isqrt (n : Nat) : Nat := isqrtFrom n (Nat.log2 n / 2 + 1) 0

/-- R644, R663: `round(w, rm, r)` for the positive `r` whose square is `n` square units. -/
def roundSqrt (w : FpWidth) (rm : Round) (n : Nat) : Word :=
  let root := isqrt n
  let q := quantum w root
  let m := root / 2 ^ q
  roundPack w rm false q m (compare (4 * n) (((2 * m + 1) * 2 ^ q) * ((2 * m + 1) * 2 ^ q))) ((m * 2 ^ q) * (m * 2 ^ q) == n)

/-- R644, and the exact zero of R650 and R667: a signed exact value of `r / den` units. -/
def roundSigned (w : FpWidth) (rm : Round) (r : Int) (den : Nat) : Word :=
  if r = 0 then fpZero w (zeroSumSign rm) else roundRatio w rm (decide (r < 0)) r.natAbs den

/-! ## The operations the source defines -/

/-- R650: `FpAdd(w, rm, a, b)`. -/
def fpAdd (w : FpWidth) (rm : Round) (a b : Word) : Word :=
  match fpVal w a, fpVal w b with
  | .nan _, _ => cnan w
  | _, .nan _ => cnan w
  | .inf sa, .inf sb => if sa = sb then fpInf w sa else cnan w
  | .inf sa, .fin _ _ => fpInf w sa
  | .fin _ _, .inf sb => fpInf w sb
  | .fin sa ua, .fin sb ub =>
    if ua = 0 ∧ ub = 0 then fpZero w (if sa = sb then sa else zeroSumSign rm)
    else roundSigned w rm (signedUnits sa ua + signedUnits sb ub) 1

/-- R655: `FpEq(w, a, b)`. -/
def fpEq (w : FpWidth) (a b : Word) : Bool :=
  match fpVal w a, fpVal w b with
  | .nan _, _ => false
  | _, .nan _ => false
  | .inf sa, .inf sb => sa == sb
  | .inf _, .fin _ _ => false
  | .fin _ _, .inf _ => false
  | .fin sa ua, .fin sb ub => decide (signedUnits sa ua = signedUnits sb ub)

/-! ## The operations of the completion (`FPU_COMPLETION = Ieee`) -/

/-- R660, R667: an operand with the sign bit of the selected width inverted, `neg(v)`. -/
def fpNeg (w : FpWidth) (v : Word) : Word := fpOfMag w (!fpSign w v) (fpMag w v)

/-- R660: `FpSub(w, rm, a, b)`. -/
def fpSub (w : FpWidth) (rm : Round) (a b : Word) : Word := fpAdd w rm a (fpNeg w b)

/-- R661: `FpMul(w, rm, a, b)`. -/
def fpMul (w : FpWidth) (rm : Round) (a b : Word) : Word :=
  match fpVal w a, fpVal w b with
  | .nan _, _ => cnan w
  | _, .nan _ => cnan w
  | .inf sa, .inf sb => fpInf w (sa ^^ sb)
  | .inf sa, .fin sb ub => if ub = 0 then cnan w else fpInf w (sa ^^ sb)
  | .fin sa ua, .inf sb => if ua = 0 then cnan w else fpInf w (sa ^^ sb)
  | .fin sa ua, .fin sb ub =>
    if ua = 0 ∨ ub = 0 then fpZero w (sa ^^ sb) else roundRatio w rm (sa ^^ sb) (ua * ub) (2 ^ w.unitExp)

/-- R662: `FpDiv(w, rm, a, b)`. -/
def fpDiv (w : FpWidth) (rm : Round) (a b : Word) : Word :=
  match fpVal w a, fpVal w b with
  | .nan _, _ => cnan w
  | _, .nan _ => cnan w
  | .inf _, .inf _ => cnan w
  | .inf sa, .fin sb _ => fpInf w (sa ^^ sb)
  | .fin sa _, .inf sb => fpZero w (sa ^^ sb)
  | .fin sa ua, .fin sb ub =>
    if ub = 0 then if ua = 0 then cnan w else fpInf w (sa ^^ sb)
    else if ua = 0 then fpZero w (sa ^^ sb)
    else roundRatio w rm (sa ^^ sb) (ua * 2 ^ w.unitExp) ub

/-- R663: `FpSqrt(w, rm, a)`. -/
def fpSqrt (w : FpWidth) (rm : Round) (a : Word) : Word :=
  match fpVal w a with
  | .nan _ => cnan w
  | .inf sa => if sa then cnan w else fpInf w false
  | .fin sa ua =>
    if ua = 0 then fpZero w sa
    else if sa then cnan w
    else roundSqrt w rm (ua * 2 ^ w.unitExp)

/-- R671: `FpLt(w, a, b)`. -/
def fpLt (w : FpWidth) (a b : Word) : Bool :=
  match fpVal w a, fpVal w b with
  | .nan _, _ => false
  | _, .nan _ => false
  | .inf sa, .inf sb => sa && !sb
  | .inf sa, .fin _ _ => sa
  | .fin _ _, .inf sb => !sb
  | .fin sa ua, .fin sb ub => decide (signedUnits sa ua < signedUnits sb ub)

/-- R672: `FpLe(w, a, b)`. -/
def fpLe (w : FpWidth) (a b : Word) : Bool := fpLt w a b || fpEq w a b

/-- Whether an encoding is a NaN. -/
def fpIsNan (w : FpWidth) (v : Word) : Bool := decide (w.infMag < fpMag w v)

/-- An operand's own bits at a width (R643, R664). -/
def fpCopy (w : FpWidth) (v : Word) : Word := BitVec.ofNat 64 (w.select v)

/-- R664: `FpMin(w, a, b)`. -/
def fpMin (w : FpWidth) (a b : Word) : Word :=
  if fpIsNan w a then if fpIsNan w b then cnan w else fpCopy w b
  else if fpIsNan w b then fpCopy w a
  else if fpLt w a b then fpCopy w a
  else if fpLt w b a then fpCopy w b
  else if fpSign w a then fpCopy w a else fpCopy w b

/-- R664: `FpMax(w, a, b)`. -/
def fpMax (w : FpWidth) (a b : Word) : Word :=
  if fpIsNan w a then if fpIsNan w b then cnan w else fpCopy w b
  else if fpIsNan w b then fpCopy w a
  else if fpLt w a b then fpCopy w b
  else if fpLt w b a then fpCopy w a
  else if fpSign w a then fpCopy w b else fpCopy w a

/-- R665: `FSgnj`. -/
def fpSgnj (w : FpWidth) (a b : Word) : Word := fpOfMag w (fpSign w b) (fpMag w a)

/-- R665: `FSgnjn`. -/
def fpSgnjn (w : FpWidth) (a b : Word) : Word := fpOfMag w (!fpSign w b) (fpMag w a)

/-- R665: `FSgnjx`. -/
def fpSgnjx (w : FpWidth) (a b : Word) : Word := fpOfMag w (fpSign w a ^^ fpSign w b) (fpMag w a)

/-- R666: the bit `FpClass` sets. -/
def fpClassBit (w : FpWidth) (a : Word) : Nat :=
  match fpVal w a with
  | .inf true => 0
  | .inf false => 7
  | .nan false => 8
  | .nan true => 9
  | .fin sa ua =>
    if ua = 0 then if sa then 3 else 4
    else if ua < 2 ^ w.fracBits then if sa then 2 else 5
    else if sa then 1 else 6

/-- R666: `FpClass(w, a)`. -/
def fpClass (w : FpWidth) (a : Word) : Word := BitVec.ofNat 64 (2 ^ fpClassBit w a)

/-- R667: `Fma(w, rm, A, B, C)`, one rounding. -/
def fma (w : FpWidth) (rm : Round) (a b c : Word) : Word :=
  match fpVal w a, fpVal w b, fpVal w c with
  | .nan _, _, _ => cnan w
  | _, .nan _, _ => cnan w
  | _, _, .nan _ => cnan w
  | .inf sa, .inf sb, .inf sc => if sc = (sa ^^ sb) then fpInf w (sa ^^ sb) else cnan w
  | .inf sa, .inf sb, .fin _ _ => fpInf w (sa ^^ sb)
  | .inf sa, .fin sb ub, .inf sc => if ub = 0 then cnan w else if sc = (sa ^^ sb) then fpInf w (sa ^^ sb) else cnan w
  | .inf sa, .fin sb ub, .fin _ _ => if ub = 0 then cnan w else fpInf w (sa ^^ sb)
  | .fin sa ua, .inf sb, .inf sc => if ua = 0 then cnan w else if sc = (sa ^^ sb) then fpInf w (sa ^^ sb) else cnan w
  | .fin sa ua, .inf sb, .fin _ _ => if ua = 0 then cnan w else fpInf w (sa ^^ sb)
  | .fin _ _, .fin _ _, .inf sc => fpInf w sc
  | .fin sa ua, .fin sb ub, .fin sc uc =>
    if ua = 0 ∨ ub = 0 then
      if uc = 0 then fpZero w (if sc = (sa ^^ sb) then sa ^^ sb else zeroSumSign rm) else fpCopy w c
    else
      roundSigned w rm (signedUnits (sa ^^ sb) (ua * ub) + signedUnits sc (uc * 2 ^ w.unitExp)) (2 ^ w.unitExp)

/-- R667: `FMadd`, `a*b + c`. -/
def fpMadd (w : FpWidth) (rm : Round) (a b c : Word) : Word := fma w rm a b c

/-- R667: `FMsub`, `a*b - c`. -/
def fpMsub (w : FpWidth) (rm : Round) (a b c : Word) : Word := fma w rm a b (fpNeg w c)

/-- R667: `FNmsub`, `-(a*b) + c`. -/
def fpNmsub (w : FpWidth) (rm : Round) (a b c : Word) : Word := fma w rm (fpNeg w a) b c

/-- R667: `FNmadd`, `-(a*b) - c`. -/
def fpNmadd (w : FpWidth) (rm : Round) (a b c : Word) : Word := fma w rm (fpNeg w a) b (fpNeg w c)

end Sys2Proof.Machine
end

