-- ==== Sys2Proof/Machine/State.lean ====
section
/-! DEFINITION. The state of the machine: every state element of spec/10_state.md (R30 to R60), the memory of
spec/20_memory.md (R80), the error record of spec/60_exceptions.md (R700), and the value of all of them after reset
(R60, R750). -/

namespace Sys2Proof.Machine

/-! ## Memory -/

/-- R80, R54: the bytes of memory that are not `unlistedByte`, as address and byte pairs. The instance's capacity bounds
the addresses (`Config.memCapacity`). -/
abbrev Memory := List Host.Cell

/-- R60, R750: every byte of memory is `0x00` after reset, so that is what an address the list does not hold reads as. -/
def unlistedByte : Byte := 0x00

/-- The canonical form: addresses strictly rising, no entry equal to what an unlisted address reads as. -/
abbrev Memory.wf (m : Memory) : Prop :=
  m.Pairwise (fun c d => c.1 < d.1) ∧ ∀ c ∈ m, c.2 ≠ unlistedByte

/-! ## Errors -/

/-- R50: `run`. -/
inductive RunState where
  | running
  | halted
deriving DecidableEq, Repr

/-- R51: `stage`, the stage the next tick performs. -/
inductive Stage where
  | decode
  | execute
  | memory
  | writeback
deriving DecidableEq, Repr

/-- R33: the canonical identifier of a register of the general register file: its index, or `pc`. -/
inductive RegIdent where
  | x (index : RegIx)
  | pc
deriving DecidableEq, Repr

/-- R701: the payload of `UnimplementedFpuOp`, the `fpu_op` or the `cmp_op` value. -/
inductive CopOp where
  | fpu (op : FpuOp)
  | cmp (op : CmpOp)
deriving DecidableEq, Repr

/-- R701: the kinds of error, each with its payload. -/
inductive ErrKind where
  /-- Raised by decode in the Decode stage (R702). The payload is the primary opcode; the six bits of a `MIPS64L` opcode
  stand in the low six. -/
  | unsupportedOpcode (opcode : BitVec 7)
  /-- Raised in the Writeback stage by a write of an invalid stack-pointer or pc value (R703), and returned by the register
  port for the same two checks (R250). -/
  | invalidValue (reg : RegIdent) (value : Word)
  /-- Raised in the Memory stage by an access outside the capacity (R704), and returned by the memory ports (R99). -/
  | outOfBounds (address : Word) (width : Nat)
  /-- Raised in the Execute stage, only when `FPU_COMPLETION = Report` (R706). -/
  | unimplementedFpuOp (op : CopOp)
  /-- Returned by the register port for a write of register 0 (R705); no instruction raises it. -/
  | immutableRegister (reg : RegIdent)
deriving DecidableEq, Repr

/-- R700: the record of a raised error. -/
structure ExecError where
  /-- The kind with its payload (R701). -/
  kind : ErrKind
  /-- The address of the instruction in flight. -/
  pc : Word
  /-- The fetched instruction word. -/
  word : Word32
  /-- The stage that raised it. -/
  stage : Stage
deriving DecidableEq, Repr

/-! ## The stage latches -/

/-- R53: the stage latches, every intermediate signal of the instruction in flight, in the order of the rule's table. -/
structure Latches where
  ir : Word32
  instr : Option Record
  cs : ControlSignals
  fs : FpuSignals
  rs1Val : Word
  rs2Val : Word
  gpFwd : Word
  fpA : Word
  fpB : Word
  fpC : Word
  imm : Word
  op1 : Word
  op2 : Word
  aluResult : Word
  zero : Bool
  branchTarget : Word
  jumpTarget : Word
  mainTaken : Bool
  fpuTaken : Bool
  taken : Bool
  fpuResult : Word
  cmpResult : Bool
  memAddr : Word
  memData : Word
  wbIndex : RegIx
  wbData : Word
deriving DecidableEq, Repr

/-- R60: the latches after reset: the inert vectors, `instr` the decoding of nothing, every other latch 0. -/
def Latches.reset : Latches :=
  { ir := 0, instr := none, cs := cs0, fs := fs0, rs1Val := 0, rs2Val := 0, gpFwd := 0, fpA := 0, fpB := 0, fpC := 0
    imm := 0, op1 := 0, op2 := 0, aluResult := 0, zero := false, branchTarget := 0, jumpTarget := 0
    mainTaken := false, fpuTaken := false, taken := false, fpuResult := 0, cmpResult := false
    memAddr := 0, memData := 0, wbIndex := 0, wbData := 0 }

/-! ## The state -/

/-- Every state element of spec/10_state.md, and the parameters of the machine as a constant field. -/
structure State where
  /-- R10 to R13: the parameters. No step and no port changes them (log entry 1). -/
  cfg : Config
  /-- R30: `x[1]` to `x[31]` at positions 0 to 30. `x[0]` is hard-wired (R31) and has no storage. -/
  x : Vector Word 31
  /-- R36. -/
  pc : Word
  /-- R39: the end of the loaded program. -/
  progEnd : Word
  /-- R44: `f[0]` to `f[31]`. -/
  f : Vector Word 32
  /-- R47: the condition code. -/
  cc : Bool
  /-- R48: the coprocessor's Data register. -/
  data : Word
  /-- R54, R80. -/
  mem : Memory
  /-- R50. -/
  run : RunState
  /-- R51. -/
  stage : Stage
  /-- R52: the recorded error. -/
  fault : Option ExecError
  /-- R53. -/
  lat : Latches
deriving DecidableEq, Repr

/-- R60, R750: what reset leaves in an instance with the given parameters. -/
def State.resetWith (cfg : Config) : State :=
  { cfg := cfg, x := Vector.replicate 31 0, pc := 0, progEnd := 0, f := Vector.replicate 32 0, cc := false, data := 0
    mem := [], run := .running, stage := .decode, fault := none, lat := Latches.reset }

/-- R750: the machine right after reset, in the instance of `Config.default` (log entry 2). -/
def State.reset : State := State.resetWith Config.default

/-! ## The stops of a step -/

/-- Why a step can stop with no next state. An error of the machine is no such stop: it is latched in `State.fault` and
the step answers a next state (R708). -/
inductive Fault where
  /-- The instruction fetch reaches outside the memory. Raised by the Decode tick alone. R90 says that it cannot happen:
  the state breaks the bounds of R38 and R39, and no state a run reaches does. Safe: the model stops. -/
  | fetchOutsideMemory
deriving DecidableEq, Repr

/-- Why the model refuses to step. -/
inductive Refusal where
  /-- An instruction of the opcode table that has no meaning in the model yet. No arm answers it. Safe. -/
  | notModelled (mnemonic : String)
  /-- The parameters are outside the ranges of R11, which I50 of spec/93_implementation_defined.md says a model should
  refuse. Answered by a step and by a tick, whatever the instruction. Safe. -/
  | illegalConfig
deriving DecidableEq, Repr

end Sys2Proof.Machine
end

