-- ==== Sys2Proof/Machine/Coprocessor.lean ====
section
/-! DEFINITION. The coprocessor's combinational parts in spec/40_datapath.md: its ALU (R226), its comparator (R227), the
Data register's sources (R228, R233) and the value it writes back (R239). -/

namespace Sys2Proof.Machine

/-- R226, R660 to R667: the function of an operation, whatever the completion. -/
def fpuFunction (op : FpuOp) (w : FpWidth) (rm : Round) (a b c : Word) : Word :=
  match op with
  | .fpuNone => 0
  | .fAdd => fpAdd w rm a b
  | .fSub => fpSub w rm a b
  | .fMul => fpMul w rm a b
  | .fDiv => fpDiv w rm a b
  | .fSqrt => fpSqrt w rm a
  | .fMin => fpMin w a b
  | .fMax => fpMax w a b
  | .fSgnj => fpSgnj w a b
  | .fSgnjn => fpSgnjn w a b
  | .fSgnjx => fpSgnjx w a b
  | .fClass => fpClass w a
  | .fMadd => fpMadd w rm a b c
  | .fMsub => fpMsub w rm a b c
  | .fNmsub => fpNmsub w rm a b c
  | .fNmadd => fpNmadd w rm a b c

/-- R226, R706: the operations that have a computation defined by the source. -/
def FpuOp.defined : FpuOp → Bool
  | .fpuNone => true
  | .fAdd => true
  | _ => false

/-- R226: the coprocessor ALU. -/
def fpuAlu (completion : FpuCompletion) (fs : FpuSignals) (a b c : Word) : Except ErrKind Word :=
  if fs.fpuOp.defined || completion == .ieee then .ok (fpuFunction fs.fpuOp fs.width fs.round a b c)
  else .error (.unimplementedFpuOp (.fpu fs.fpuOp))

/-- R227, R671, R672: the function of a comparison, whatever the completion. -/
def cmpFunction (op : CmpOp) (w : FpWidth) (a b : Word) : Bool :=
  match op with
  | .cmpNone => false
  | .cmpEq => fpEq w a b
  | .cmpLt => fpLt w a b
  | .cmpLe => fpLe w a b

/-- R227, R706: the comparisons that have a computation defined by the source. -/
def CmpOp.defined : CmpOp → Bool
  | .cmpNone => true
  | .cmpEq => true
  | _ => false

/-- R227: the comparator. -/
def comparator (completion : FpuCompletion) (fs : FpuSignals) (a b : Word) : Except ErrKind Bool :=
  if fs.cmpOp.defined || completion == .ieee then .ok (cmpFunction fs.cmpOp fs.width a b)
  else .error (.unimplementedFpuOp (.cmp fs.cmpOp))

/-- R228: the Data register after Execute. -/
def dataAfterExecute (fs : FpuSignals) (old gpFwd fpA fpB fpuResult : Word) (cmpResult : Bool) : Word :=
  if fs.dataWrite then
    match fs.dataSrc with
    | .mainReg => gpFwd
    | .fpA => fpA
    | .fpB => fpB
    | .cmpResult => boolWord cmpResult
    | .fpuResult => fpuResult
    | .memData => old
  else old

/-- R233: the Data register after Memory: the loaded value, where the vector loads one and selects it. -/
def dataAfterMemory (load : MemReadKind) (fs : FpuSignals) (old memData : Word) : Word :=
  if load ≠ .noRead ∧ fs.dataWrite = true ∧ fs.dataSrc = .memData then memData else old

/-- R239: the value of the floating-point register write, before the width is applied. -/
def fpuWbValue (src : FpuWbSrc) (fpuResult data : Word) : Word :=
  match src with
  | .fromFpuAlu => fpuResult
  | .fromData => data

end Sys2Proof.Machine
end

