-- ==== Sys2Proof/Machine/Flags.lean ====
section
/-! DEFINITION. The flag-like signals of spec/40_datapath.md: the ALU zero flag (R221) and the branch decisions (R224,
R225). The main unit has no architectural flags (spec/10_state.md R41); the condition code (R47) is written by the
comparator (R227, R240). -/

namespace Sys2Proof.Machine

/-- R221: the zero flag. -/
def zeroFlag (aluResult : Word) : Bool := aluResult == 0

/-- R224: the main unit's branch decision. -/
def mainTakenOf (branch : BranchKind) (zero : Bool) : Bool :=
  match branch with
  | .noBranch => false
  | .beq => zero
  | .bge => zero
  | .bgeu => zero
  | .bne => !zero
  | .blt => !zero
  | .bltu => !zero

/-- R225: the coprocessor's branch decision, from the condition code an earlier instruction left. -/
def fpuTakenOf (branch : FpuBranch) (cc : Bool) : Bool :=
  match branch with
  | .noFpuBranch => false
  | .onTrue => cc
  | .onFalse => !cc

end Sys2Proof.Machine
end

