-- ==== Sys2Proof/Machine/Ops.lean ====
section
/-! DEFINITION. The named operations over memory and registers (the primitives of spec/00_scope.md R19), and raising an
error (spec/60_exceptions.md R708), which is this machine's one exceptional event. -/

namespace Sys2Proof.Machine

/-! ## Bytes of memory (R80) -/

/-- The byte at an address. -/
def Memory.read : Memory → Nat → Byte
  | [], _ => unlistedByte
  | c :: m, a => if c.1 = a then c.2 else Memory.read m a

/-- Puts a cell before the first cell of a higher address. -/
def Memory.insert (a : Nat) (b : Byte) : Memory → Memory
  | [] => [(a, b)]
  | c :: m => if a < c.1 then (a, b) :: c :: m else c :: Memory.insert a b m

/-- Sets the byte at an address, keeping the canonical form: what the address held goes, and a byte equal to what an
unlisted address reads as is not listed. -/
def Memory.write (m : Memory) (a : Nat) (b : Byte) : Memory :=
  let rest := m.filter (fun c => c.1 ≠ a)
  if b = unlistedByte then rest else Memory.insert a b rest

/-- The `n` bytes from an address upward. -/
def Memory.readBytes (m : Memory) (a : Nat) : Nat → List Byte
  | 0 => []
  | n + 1 => m.read a :: Memory.readBytes m (a + 1) n

/-- Sets bytes from an address upward. -/
def Memory.writeBytes (m : Memory) (a : Nat) : List Byte → Memory
  | [] => m
  | b :: bs => Memory.writeBytes (m.write a b) (a + 1) bs

/-! ## Accesses (R82 to R88) -/

/-- R85: an access of `n` bytes at `a` is in range iff `u(a) + n <= MEM_CAPACITY`, over the integers. -/
abbrev State.inRange (s : State) (a : Word) (n : Nat) : Prop := a.toNat + n ≤ s.cfg.memCapacity

/-- R86: `MemRead(a, n)`, the `8n`-bit value zero-extended to 64 bits. -/
def State.memRead (s : State) (a : Word) (n : Nat) : Except ErrKind Word :=
  if s.inRange a n then .ok (BitVec.ofNat 64 (ofBytes s.cfg.byteOrder (s.mem.readBytes a.toNat n)))
  else .error (.outOfBounds a n)

/-- R87: `MemWrite(a, n, v)`; bits of `v` above `8n-1` are dropped. -/
def State.memWrite (s : State) (a : Word) (n : Nat) (v : Word) : Except ErrKind State :=
  if s.inRange a n then .ok { s with mem := s.mem.writeBytes a.toNat (toBytes s.cfg.byteOrder n v.toNat) }
  else .error (.outOfBounds a n)

/-! ## General registers (R30 to R34) -/

/-- R30, R31, R34: the read port: `x[0]` reads 0. -/
def State.readX (s : State) (i : RegIx) : Word :=
  if i = 0 then 0 else s.x[i.toNat - 1]'(by have := i.isLt; omega)

/-- The bare write port: it stores, and never in register 0, which has no storage (R31). -/
def State.setX (s : State) (i : RegIx) (v : Word) : State :=
  if i = 0 then s else { s with x := s.x.set (i.toNat - 1) v (by have := i.isLt; omega) }

/-- R32: a value is valid for the stack pointer iff it is a multiple of 4 and at most `MEM_CAPACITY`. -/
abbrev State.spValid (s : State) (v : Word) : Prop := v.toNat % 4 = 0 ∧ v.toNat ≤ s.cfg.memCapacity

/-- R15, R32: a value may be written to a general register iff the register is not the stack pointer or the value is
valid for it. -/
abbrev State.xWritable (s : State) (i : RegIx) (v : Word) : Prop := i = s.cfg.isa.spIndex → s.spValid v

/-- R236: the datapath write of a general register: index 0 is suppressed, an invalid stack-pointer value is an error. -/
def State.writeX (s : State) (i : RegIx) (v : Word) : Except ErrKind State :=
  if i = 0 then .ok s
  else if s.xWritable i v then .ok (s.setX i v)
  else .error (.invalidValue (.x i) v)

/-! ## The program counter (R36 to R40) -/

/-- R38: a value is valid for `pc` iff it is a multiple of 4 and at most `prog_end`. -/
abbrev State.pcValid (s : State) (t : Word) : Prop := t.toNat % 4 = 0 ∧ t.toNat ≤ s.progEnd.toNat

/-- R38: the checked write of `pc`. -/
def State.writePc (s : State) (t : Word) : Except ErrKind State :=
  if s.pcValid t then .ok { s with pc := t } else .error (.invalidValue .pc t)

/-! ## Floating-point registers (R44, R45) -/

/-- R44: `f[i]`. -/
def State.readF (s : State) (i : RegIx) : Word := s.f[i.toNat]'i.isLt

/-- R44: `f[i] <- v`; no write is checked. -/
def State.setF (s : State) (i : RegIx) (v : Word) : State := { s with f := s.f.set i.toNat v i.isLt }

/-- R45, R239: the value a write of a width stores: a word-width write clears bits 63:32. -/
def fpStored (w : FpWidth) (v : Word) : Word :=
  match w with
  | .word => (v.setWidth 32).setWidth 64
  | .double => v

/-- R45, R239: the write of a floating-point register at a width. -/
def State.writeF (s : State) (w : FpWidth) (i : RegIx) (v : Word) : State := s.setF i (fpStored w v)

/-! ## Raising an error (R708) -/

/-- R708: raising an error. The stage's writes are not committed, the record of R700 goes into `fault`, and `stage`, `pc`
and `run` keep their values. There is no handler, no saved register and no return (R725, R726): only reset and load
clear the record (R709). -/
def State.raise (s : State) (kind : ErrKind) (word : Word32) : State :=
  { s with fault := some { kind := kind, pc := s.pc, word := word, stage := s.stage } }

end Sys2Proof.Machine
end

