-- ==== Sys2Proof/Machine/Operands.lean ====
section
/-! DEFINITION. The operand forms: register slots (spec/30_encoding.md R118, R119), immediates (R120), and the operand,
target and write-back multiplexers of spec/40_datapath.md (R221 to R223, R236, R237). -/

namespace Sys2Proof.Machine

/-! ## General-register slots (R118) -/

/-- R118: `slot1`. -/
def slot1 (isa : Isa) (w : Word32) : RegIx :=
  match isa with
  | .mips64l => w.extractLsb' 21 5
  | .rv64l => w.extractLsb' 15 5

/-- R118: `slot2`. -/
def slot2 (isa : Isa) (w : Word32) : RegIx :=
  match isa with
  | .mips64l => w.extractLsb' 16 5
  | .rv64l => w.extractLsb' 20 5

/-- R118: `slotd`. -/
def slotd (isa : Isa) (w : Word32) : RegIx :=
  match isa with
  | .mips64l => w.extractLsb' 11 5
  | .rv64l => w.extractLsb' 7 5

/-- R118: the variant has a slot-1 field. -/
def hasSlot1 : Record → Bool
  | .mipsR .. => true
  | .mipsI .. => true
  | .mipsJ .. => false
  | .rvR .. => true
  | .rvI .. => true
  | .rvS .. => true
  | .rvB .. => true
  | .rvU .. => false
  | .rvJ .. => false
  | .rvR4 .. => true

/-- R118: the variant has a slot-2 field. -/
def hasSlot2 : Record → Bool
  | .mipsR .. => true
  | .mipsI .. => true
  | .mipsJ .. => false
  | .rvR .. => true
  | .rvI .. => false
  | .rvS .. => true
  | .rvB .. => true
  | .rvU .. => false
  | .rvJ .. => false
  | .rvR4 .. => true

/-- R213: `rs1_val`, 0 for a variant that has no slot-1 field. -/
def readSlot1 (s : State) (r : Record) (w : Word32) : Word :=
  if hasSlot1 r then s.readX (slot1 s.cfg.isa w) else 0

/-- R213: `rs2_val`, 0 for a variant that has no slot-2 field. -/
def readSlot2 (s : State) (r : Record) (w : Word32) : Word :=
  if hasSlot2 r then s.readX (slot2 s.cfg.isa w) else 0

/-- R213: the general register value forwarded to the coprocessor. -/
def forwarded (isa : Isa) (rs1Val rs2Val : Word) : Word :=
  match isa with
  | .mips64l => rs2Val
  | .rv64l => rs1Val

/-! ## Floating-point slots (R119) -/

/-- R119: `fa`, read as `fp_a`. -/
def faSlot (isa : Isa) (w : Word32) : RegIx :=
  match isa with
  | .mips64l => w.extractLsb' 11 5
  | .rv64l => w.extractLsb' 15 5

/-- R119: `fb`, read as `fp_b`. -/
def fbSlot (isa : Isa) (w : Word32) : RegIx :=
  match isa with
  | .mips64l => w.extractLsb' 16 5
  | .rv64l => w.extractLsb' 20 5

/-- R119, R213: `fp_c`: `RV64L` reads `f[w[31:27]]`, `MIPS64L` has no such port and reads 0. -/
def readFc (s : State) (w : Word32) : Word :=
  match s.cfg.isa with
  | .mips64l => 0
  | .rv64l => s.readF (w.extractLsb' 27 5)

/-- R119: the floating-point destination a vector selects. -/
def fpuDst (isa : Isa) (dst : FpuRegDst) (w : Word32) : RegIx :=
  match isa, dst with
  | .mips64l, .fdSlot => w.extractLsb' 6 5
  | .mips64l, .fsSlot => w.extractLsb' 11 5
  | .mips64l, .ftSlot => w.extractLsb' 16 5
  | .rv64l, .fdSlot => w.extractLsb' 7 5
  | .rv64l, .fsSlot => w.extractLsb' 15 5
  | .rv64l, .ftSlot => w.extractLsb' 20 5

/-! ## Immediates (R120) -/

/-- R120: the `MIPS64L` column of `ImmGen`. -/
def immGenMips (form : ImmForm) (w : Word32) : Word :=
  match form with
  | .iSigned => (w.extractLsb' 0 16).signExtend 64
  | .iUnsigned => (w.extractLsb' 0 16).setWidth 64
  | .upper => (w.extractLsb' 0 16 ++ 0#16).signExtend 64
  | .s => (w.extractLsb' 0 16).signExtend 64
  | .b => (w.extractLsb' 0 16).signExtend 64
  | .j => (w.extractLsb' 0 16).signExtend 64

/-- R120: the `RV64L` column of `ImmGen`. -/
def immGenRv (form : ImmForm) (w : Word32) : Word :=
  match form with
  | .iSigned => (w.extractLsb' 20 12).signExtend 64
  | .iUnsigned => (w.extractLsb' 20 12).setWidth 64
  | .upper => (w.extractLsb' 12 20 ++ 0#12).signExtend 64
  | .s => (w.extractLsb' 25 7 ++ w.extractLsb' 7 5).signExtend 64
  | .b =>
    (w.extractLsb' 31 1 ++ w.extractLsb' 7 1 ++ w.extractLsb' 25 6 ++ w.extractLsb' 8 4 ++ 0#1).signExtend 64
  | .j =>
    (w.extractLsb' 31 1 ++ w.extractLsb' 12 8 ++ w.extractLsb' 20 1 ++ w.extractLsb' 21 10 ++ 0#1).signExtend 64

/-- R120: `ImmGen(ISA, form, w)`. -/
def immGen (isa : Isa) (form : ImmForm) (w : Word32) : Word :=
  match isa with
  | .mips64l => immGenMips form w
  | .rv64l => immGenRv form w

/-! ## Multiplexers -/

/-- R221: the first ALU operand. -/
def selectOp1 (src : Op1Src) (rs1Val rs2Val pc : Word) : Word :=
  match src with
  | .rs1 => rs1Val
  | .rs2 => rs2Val
  | .pc => pc
  | .pcPlus4 => pc + 4

/-- R221: the second ALU operand. -/
def selectOp2 (src : Op2Src) (rs2Val imm : Word) : Word :=
  match src with
  | .rs2 => rs2Val
  | .imm => imm

/-- R222: the branch target. -/
def branchTargetOf (isa : Isa) (pc imm : Word) : Word :=
  match isa with
  | .mips64l => pc + 4 + (imm <<< 2)
  | .rv64l => pc + imm

/-- R223: the region jump's target `{(pc + 4)[63:28], ir[25:0], 0b00}`. -/
def regionTarget (pc : Word) (w : Word32) : Word :=
  (pc + 4).extractLsb' 28 36 ++ w.extractLsb' 0 26 ++ 0#2

/-- R223: `{v[63:1], 0b0}`. -/
def clearBit0 (v : Word) : Word := v.extractLsb' 1 63 ++ 0#1

/-- R223: the jump target. -/
def jumpTargetOf (jump : JumpKind) (pc : Word) (w : Word32) (rs1Val aluResult : Word) : Word :=
  match jump with
  | .noJump => 0
  | .jRegion => regionTarget pc w
  | .jReg => rs1Val
  | .jAlu => aluResult
  | .jAluClr0 => clearBit0 aluResult

/-- R236: the destination index of the general register write. -/
def wbIndexOf (isa : Isa) (dst : RegDst) (w : Word32) : RegIx :=
  match dst with
  | .rs1Slot => slot1 isa w
  | .rs2Slot => slot2 isa w
  | .rdSlot => slotd isa w
  | .link => linkIndex

/-- R237: the value written to the general register: the coprocessor's data-write signal overrides the main unit's
source. -/
def wbDataOf (cs : ControlSignals) (fs : FpuSignals) (data aluResult memData imm pc : Word) : Word :=
  if fs.dataWrite then
    match fs.width with
    | .double => data
    | .word => sext32 data
  else
    match cs.wbSrc with
    | .alu => aluResult
    | .mem => memData
    | .imm => imm
    | .pcPlus4 => pc + 4

/-- R238: the next pc. -/
def nextPcOf (jump : JumpKind) (taken : Bool) (jumpTarget branchTarget pc : Word) : Word :=
  if jump = .noJump then if taken then branchTarget else pc + 4 else jumpTarget

/-! ## Access widths (R82, R84, R167, R168) -/

/-- R84: the width in bytes of a load. -/
def MemReadKind.width : MemReadKind → Nat
  | .noRead => 0
  | .b => 1
  | .bu => 1
  | .h => 2
  | .hu => 2
  | .w => 4
  | .wu => 4
  | .d => 8

/-- R84: the extension of a loaded value, given zero-extended to 64 bits. -/
def MemReadKind.extend (k : MemReadKind) (v : Word) : Word :=
  match k with
  | .noRead => 0
  | .b => (v.setWidth 8).signExtend 64
  | .bu => v
  | .h => (v.setWidth 16).signExtend 64
  | .hu => v
  | .w => (v.setWidth 32).signExtend 64
  | .wu => v
  | .d => v

/-- R168, R232: the width in bytes of a store. -/
def MemWriteKind.width : MemWriteKind → Nat
  | .noWrite => 0
  | .b => 1
  | .h => 2
  | .w => 4
  | .d => 8

end Sys2Proof.Machine
end

