-- ==== Sys2Proof/Machine/Stages.lean ====
section
/-! DEFINITION. The four stages of the Execution Stage Machine, spec/40_datapath.md (R213 to R241), over the two control
vectors. A stage answers the state it commits or the error it raises; an error commits nothing of the stage (R210, R708).
The meanings of the instructions are these stages applied to each instruction's own vectors (spec/00_scope.md R20). -/

namespace Sys2Proof.Machine

/-! ## Decode (R213) -/

/-- R213: what a Decode tick that raises nothing writes, for the fetched word `w`, its record and its vectors. -/
def latchDecode (r : Record) (w : Word32) (v : Vectors) (s : State) : State :=
  { s with
    lat := { s.lat with
      ir := w, instr := some r, cs := v.cs, fs := v.fs
      rs1Val := readSlot1 s r w, rs2Val := readSlot2 s r w
      gpFwd := forwarded s.cfg.isa (readSlot1 s r w) (readSlot2 s r w)
      fpA := s.readF (faSlot s.cfg.isa w), fpB := s.readF (fbSlot s.cfg.isa w), fpC := readFc s w }
    stage := .execute }

/-! ## Execute (R220 to R228) -/

/-- R221: the immediate of the instruction in flight. -/
def immOf (s : State) : Word := immGen s.cfg.isa s.lat.cs.immForm s.lat.ir

/-- R221: the first ALU operand of the instruction in flight. -/
def op1Of (s : State) : Word := selectOp1 s.lat.cs.op1Src s.lat.rs1Val s.lat.rs2Val s.pc

/-- R221: the second ALU operand of the instruction in flight. -/
def op2Of (s : State) : Word := selectOp2 s.lat.cs.op2Src s.lat.rs2Val (immOf s)

/-- R221: the ALU result of the instruction in flight. -/
def aluOf (s : State) : Word := alu s.lat.cs.aluOp (op1Of s) (op2Of s)

/-- R224: the main unit's branch decision for the instruction in flight. -/
def mainTakenNow (s : State) : Bool := mainTakenOf s.lat.cs.branch (zeroFlag (aluOf s))

/-- R225: the coprocessor's branch decision for the instruction in flight. -/
def fpuTakenNow (s : State) : Bool := fpuTakenOf s.lat.fs.fpuBranch s.cc

/-- R221 to R227: the latches Execute writes, given the coprocessor's results. -/
def executeLatches (s : State) (fpuResult : Word) (cmpResult : Bool) : Latches :=
  { s.lat with
    imm := immOf s, op1 := op1Of s, op2 := op2Of s, aluResult := aluOf s, zero := zeroFlag (aluOf s)
    branchTarget := branchTargetOf s.cfg.isa s.pc (immOf s)
    jumpTarget := jumpTargetOf s.lat.cs.jump s.pc s.lat.ir s.lat.rs1Val (aluOf s)
    mainTaken := mainTakenNow s, fpuTaken := fpuTakenNow s, taken := mainTakenNow s || fpuTakenNow s
    fpuResult := fpuResult, cmpResult := cmpResult }

/-- R220: the Execute tick. -/
def executeStage (s : State) : Except ErrKind State :=
  match fpuAlu s.cfg.fpuCompletion s.lat.fs s.lat.fpA s.lat.fpB s.lat.fpC with
  | .error k => .error k
  | .ok fpuResult =>
    match comparator s.cfg.fpuCompletion s.lat.fs s.lat.fpA s.lat.fpB with
    | .error k => .error k
    | .ok cmpResult =>
      .ok { s with
        data := dataAfterExecute s.lat.fs s.data s.lat.gpFwd s.lat.fpA s.lat.fpB fpuResult cmpResult
        lat := executeLatches s fpuResult cmpResult
        stage := .memory }

/-! ## Memory (R230 to R233) -/

/-- R231: the loaded, extended value, 0 where the vector loads nothing. -/
def loadValue (s : State) (k : MemReadKind) (a : Word) : Except ErrKind Word :=
  if k = .noRead then .ok 0
  else
    match s.memRead a k.width with
    | .error e => .error e
    | .ok v => .ok (k.extend v)

/-- R232: the store, where the vector stores anything. -/
def storeValue (s : State) (k : MemWriteKind) (a v : Word) : Except ErrKind State :=
  if k = .noWrite then .ok s else s.memWrite a k.width v

/-- R232: the stored value. -/
def storedValue (src : MemWriteSrc) (rs2Val data : Word) : Word :=
  match src with
  | .mainUnit => rs2Val
  | .copData => data

/-- R230: the effective address of the instruction in flight. -/
def memAddrOf (s : State) : Word := s.lat.op1 + s.lat.imm

/-- R230: the Memory tick. A vector that both loads and stores loads first (R168). -/
def memoryStage (s : State) : Except ErrKind State :=
  match loadValue s s.lat.cs.memRead (memAddrOf s) with
  | .error k => .error k
  | .ok memData =>
    match storeValue s s.lat.cs.memWrite (memAddrOf s) (storedValue s.lat.cs.memWriteSrc s.lat.rs2Val s.data) with
    | .error k => .error k
    | .ok t =>
      .ok { t with
        data := dataAfterMemory t.lat.cs.memRead t.lat.fs t.data memData
        lat := { t.lat with memAddr := memAddrOf s, memData := memData }
        stage := .writeback }

/-! ## Writeback (R235 to R241) -/

/-- R236: the destination of the general register write of the instruction in flight. -/
def wbIndexNow (s : State) : RegIx := wbIndexOf s.cfg.isa s.lat.cs.regDst s.lat.ir

/-- R237: the value of the general register write of the instruction in flight. -/
def wbDataNow (s : State) : Word :=
  wbDataOf s.lat.cs s.lat.fs s.data s.lat.aluResult s.lat.memData s.lat.imm s.pc

/-- R236, R237: the general register write, with its two latches. -/
def writeGeneral (s : State) : Except ErrKind State :=
  if s.lat.cs.regWrite then
    match s.writeX (wbIndexNow s) (wbDataNow s) with
    | .error k => .error k
    | .ok t => .ok { t with lat := { t.lat with wbIndex := wbIndexNow s, wbData := wbDataNow s } }
  else .ok s

/-- R239: the floating-point register write. -/
def writeFloat (s : State) : State :=
  if s.lat.fs.fpuRegWrite then
    s.writeF s.lat.fs.width (fpuDst s.cfg.isa s.lat.fs.fpuRegDst s.lat.ir)
      (fpuWbValue s.lat.fs.fpuWbSrc s.lat.fpuResult s.data)
  else s

/-- R240: the condition code. -/
def writeCc (s : State) : State := { s with cc := if s.lat.fs.ccWrite then s.lat.cmpResult else s.cc }

/-- R241: the halt. -/
def writeRun (s : State) : State := { s with run := if s.lat.cs.halt then .halted else s.run }

/-- R238: the next pc of the instruction in flight. -/
def nextPc (s : State) : Word := nextPcOf s.lat.cs.jump s.lat.taken s.lat.jumpTarget s.lat.branchTarget s.pc

/-- R235: the Writeback tick. The register check comes before the pc check (R238); either error commits nothing. -/
def writebackStage (s : State) : Except ErrKind State :=
  match writeGeneral s with
  | .error k => .error k
  | .ok t =>
    match (writeCc (writeFloat t)).writePc (nextPc s) with
    | .error k => .error k
    | .ok u => .ok { writeRun u with stage := .decode }

/-! ## A whole instruction (R211, R245) -/

/-- The step from Writeback on: its writes, or its error raised. -/
def fromWriteback (s : State) : State :=
  match writebackStage s with
  | .ok t => t
  | .error k => s.raise k s.lat.ir

/-- The step from Memory on. -/
def fromMemory (s : State) : State :=
  match memoryStage s with
  | .ok t => fromWriteback t
  | .error k => s.raise k s.lat.ir

/-- The step from Execute on. -/
def fromExecute (s : State) : State :=
  match executeStage s with
  | .ok t => fromMemory t
  | .error k => s.raise k s.lat.ir

/-- A word whose record and vectors are known, run through the four stages. Every error is latched in the next state
(R708), so there is always one. -/
def runWord (r : Record) (w : Word32) (v : Vectors) (s : State) : Host.Outcome State Fault Refusal :=
  .next (fromExecute (latchDecode r w v s))

/-- An instruction run through the four stages with its vectors, as the Decode tick that fetched its word begins it. -/
def runInstr (i : Instr) (v : Vectors) (s : State) : Host.Outcome State Fault Refusal :=
  runWord i.record (encode i) v s

/-- R125 case 3: a word that matches no instruction runs with the inert vectors. -/
def runInert (r : Record) (w : Word32) (s : State) : Host.Outcome State Fault Refusal := runWord r w inertVectors s

/-- R645: the vectors of a rounded instruction of `RV64L`. A `funct3` that names no rounding mode matches no instruction
and gets the inert vectors. -/
def roundedVectors (rm : BitVec 3) (v : Round → Vectors) : Vectors :=
  match roundingMode rm with
  | some m => v m
  | none => inertVectors

end Sys2Proof.Machine
end

