-- ==== Sys2Proof/Machine/MipsCop1.lean ====
section
/-! DEFINITION. The meanings of the coprocessor instructions of `MIPS64L` (spec/43_mips_cop1.md R401 to R426): each
instruction's two control vectors and its run through the four stages (spec/00_scope.md R20). A docstring quotes the net effect
its rule gives. -/

namespace Sys2Proof.Machine

/-- R401: the vectors of `lwc1 ft, offset(base)`. -/
def vecMipsLwc1 : Vectors :=
  { cs := { op2Src := .imm, aluOp := .add64, memRead := .wu }, fs := { dataSrc := .memData, dataWrite := true, fpuWbSrc := .fromData, fpuRegDst := .ftSlot, fpuRegWrite := true } }
/-- R401: `lwc1 ft, offset(base)`: `a = (x[base] + sext_64(w[15:0])) mod 2^64; data <- zext_64(MemRead(a, 4)); f[ft] <- data; pc <- pc + 4`. -/
def execMipsLwc1 (base ft : RegIx) (imm16 : BitVec 16) (s : State) : Host.Outcome State Fault Refusal :=
  runInstr (.mipsLwc1 base ft imm16) vecMipsLwc1 s

/-- R402: the vectors of `ldc1 ft, offset(base)`. -/
def vecMipsLdc1 : Vectors :=
  { cs := { op2Src := .imm, aluOp := .add64, memRead := .d }, fs := { width := .double, dataSrc := .memData, dataWrite := true, fpuWbSrc := .fromData, fpuRegDst := .ftSlot, fpuRegWrite := true } }
/-- R402: `ldc1 ft, offset(base)`: `a = (x[base] + sext_64(w[15:0])) mod 2^64; data <- MemRead(a, 8); f[ft] <- data; pc <- pc + 4`. -/
def execMipsLdc1 (base ft : RegIx) (imm16 : BitVec 16) (s : State) : Host.Outcome State Fault Refusal :=
  runInstr (.mipsLdc1 base ft imm16) vecMipsLdc1 s

/-- R403: the vectors of `swc1 ft, offset(base)`. -/
def vecMipsSwc1 : Vectors :=
  { cs := { op2Src := .imm, aluOp := .add64, memWrite := .w, memWriteSrc := .copData }, fs := { dataSrc := .fpB, dataWrite := true } }
/-- R403: `swc1 ft, offset(base)`: `a = (x[base] + sext_64(w[15:0])) mod 2^64; data <- f[ft]; MemWrite(a, 4, data); pc <- pc + 4`. -/
def execMipsSwc1 (base ft : RegIx) (imm16 : BitVec 16) (s : State) : Host.Outcome State Fault Refusal :=
  runInstr (.mipsSwc1 base ft imm16) vecMipsSwc1 s

/-- R404: the vectors of `sdc1 ft, offset(base)`. -/
def vecMipsSdc1 : Vectors :=
  { cs := { op2Src := .imm, aluOp := .add64, memWrite := .d, memWriteSrc := .copData }, fs := { width := .double, dataSrc := .fpB, dataWrite := true } }
/-- R404: `sdc1 ft, offset(base)`: `a = (x[base] + sext_64(w[15:0])) mod 2^64; data <- f[ft]; MemWrite(a, 8, data); pc <- pc + 4`. -/
def execMipsSdc1 (base ft : RegIx) (imm16 : BitVec 16) (s : State) : Host.Outcome State Fault Refusal :=
  runInstr (.mipsSdc1 base ft imm16) vecMipsSdc1 s

/-- R405: the vectors of `mfc1 rt, fs`. -/
def vecMipsMfc1 : Vectors := { cs := { regDst := .rs2Slot, regWrite := true }, fs := { dataSrc := .fpA, dataWrite := true } }
/-- R405: `mfc1 rt, fs`: `data <- f[fs]; x[rt] <- sext32(data[31:0]); pc <- pc + 4`. -/
def execMipsMfc1 (rt fs : RegIx) (shamt : BitVec 5) (funct : BitVec 6) (s : State) : Host.Outcome State Fault Refusal :=
  runInstr (.mipsMfc1 rt fs shamt funct) vecMipsMfc1 s

/-- R406: the vectors of `dmfc1 rt, fs`. -/
def vecMipsDmfc1 : Vectors :=
  { cs := { regDst := .rs2Slot, regWrite := true }, fs := { width := .double, dataSrc := .fpA, dataWrite := true } }
/-- R406: `dmfc1 rt, fs`: `data <- f[fs]; x[rt] <- data; pc <- pc + 4`. -/
def execMipsDmfc1 (rt fs : RegIx) (shamt : BitVec 5) (funct : BitVec 6) (s : State) : Host.Outcome State Fault Refusal :=
  runInstr (.mipsDmfc1 rt fs shamt funct) vecMipsDmfc1 s

/-- R407: the vectors of `mtc1 rt, fs`. -/
def vecMipsMtc1 : Vectors := { fs := { dataWrite := true, fpuWbSrc := .fromData, fpuRegDst := .fsSlot, fpuRegWrite := true } }
/-- R407: `mtc1 rt, fs`: `data <- x[rt]; f[fs] <- zext_64(data[31:0]); pc <- pc + 4`. -/
def execMipsMtc1 (rt fs : RegIx) (shamt : BitVec 5) (funct : BitVec 6) (s : State) : Host.Outcome State Fault Refusal :=
  runInstr (.mipsMtc1 rt fs shamt funct) vecMipsMtc1 s

/-- R408: the vectors of `dmtc1 rt, fs`. -/
def vecMipsDmtc1 : Vectors :=
  { fs := { width := .double, dataWrite := true, fpuWbSrc := .fromData, fpuRegDst := .fsSlot, fpuRegWrite := true } }
/-- R408: `dmtc1 rt, fs`: `data <- x[rt]; f[fs] <- data; pc <- pc + 4`. -/
def execMipsDmtc1 (rt fs : RegIx) (shamt : BitVec 5) (funct : BitVec 6) (s : State) : Host.Outcome State Fault Refusal :=
  runInstr (.mipsDmtc1 rt fs shamt funct) vecMipsDmtc1 s

/-- R409: the vectors of `bc1f offset`. -/
def vecMipsBc1f : Vectors := { fs := { fpuBranch := .onFalse } }
/-- R409: `bc1f offset`: `target = (pc + 4 + (sext_64(w[15:0]) << 2)) mod 2^64; pc <- target if cc = 0 else pc + 4`. -/
def execMipsBc1f (imm16 : BitVec 16) (s : State) : Host.Outcome State Fault Refusal :=
  runInstr (.mipsBc1f imm16) vecMipsBc1f s

/-- R410: the vectors of `bc1t offset`. -/
def vecMipsBc1t : Vectors := { fs := { fpuBranch := .onTrue } }
/-- R410: `bc1t offset`: `target = (pc + 4 + (sext_64(w[15:0]) << 2)) mod 2^64; pc <- target if cc = 1 else pc + 4`. -/
def execMipsBc1t (imm16 : BitVec 16) (s : State) : Host.Outcome State Fault Refusal :=
  runInstr (.mipsBc1t imm16) vecMipsBc1t s

/-- R411: the vectors of `add.s fd, fs, ft`. -/
def vecMipsAddS : Vectors := { fs := { fpuOp := .fAdd, fpuRegWrite := true } }
/-- R411: `add.s fd, fs, ft`: `f[fd] <- FpAdd(Word, RNE, f[fs], f[ft]), upper 32 bits zero; pc <- pc + 4`. -/
def execMipsAddS (ft fs fd : RegIx) (s : State) : Host.Outcome State Fault Refusal :=
  runInstr (.mipsAddS ft fs fd) vecMipsAddS s

/-- R412: the vectors of `add.d fd, fs, ft`. -/
def vecMipsAddD : Vectors := { fs := { fpuOp := .fAdd, width := .double, fpuRegWrite := true } }
/-- R412: `add.d fd, fs, ft`: `f[fd] <- FpAdd(Double, RNE, f[fs], f[ft]); pc <- pc + 4`. -/
def execMipsAddD (ft fs fd : RegIx) (s : State) : Host.Outcome State Fault Refusal :=
  runInstr (.mipsAddD ft fs fd) vecMipsAddD s

/-- R413: the vectors of `sub.s fd, fs, ft`. -/
def vecMipsSubS : Vectors := { fs := { fpuOp := .fSub, fpuRegWrite := true } }
/-- R413: `sub.s fd, fs, ft`: `f[fd] <- FpSub(Word, RNE, f[fs], f[ft]), upper 32 bits zero; pc <- pc + 4`. -/
def execMipsSubS (ft fs fd : RegIx) (s : State) : Host.Outcome State Fault Refusal :=
  runInstr (.mipsSubS ft fs fd) vecMipsSubS s

/-- R414: the vectors of `sub.d fd, fs, ft`. -/
def vecMipsSubD : Vectors := { fs := { fpuOp := .fSub, width := .double, fpuRegWrite := true } }
/-- R414: `sub.d fd, fs, ft`: `f[fd] <- FpSub(Double, RNE, f[fs], f[ft]); pc <- pc + 4`. -/
def execMipsSubD (ft fs fd : RegIx) (s : State) : Host.Outcome State Fault Refusal :=
  runInstr (.mipsSubD ft fs fd) vecMipsSubD s

/-- R415: the vectors of `mul.s fd, fs, ft`. -/
def vecMipsMulS : Vectors := { fs := { fpuOp := .fMul, fpuRegWrite := true } }
/-- R415: `mul.s fd, fs, ft`: `f[fd] <- FpMul(Word, RNE, f[fs], f[ft]), upper 32 bits zero; pc <- pc + 4`. -/
def execMipsMulS (ft fs fd : RegIx) (s : State) : Host.Outcome State Fault Refusal :=
  runInstr (.mipsMulS ft fs fd) vecMipsMulS s

/-- R416: the vectors of `mul.d fd, fs, ft`. -/
def vecMipsMulD : Vectors := { fs := { fpuOp := .fMul, width := .double, fpuRegWrite := true } }
/-- R416: `mul.d fd, fs, ft`: `f[fd] <- FpMul(Double, RNE, f[fs], f[ft]); pc <- pc + 4`. -/
def execMipsMulD (ft fs fd : RegIx) (s : State) : Host.Outcome State Fault Refusal :=
  runInstr (.mipsMulD ft fs fd) vecMipsMulD s

/-- R417: the vectors of `div.s fd, fs, ft`. -/
def vecMipsDivS : Vectors := { fs := { fpuOp := .fDiv, fpuRegWrite := true } }
/-- R417: `div.s fd, fs, ft`: `f[fd] <- FpDiv(Word, RNE, f[fs], f[ft]), upper 32 bits zero; pc <- pc + 4`. -/
def execMipsDivS (ft fs fd : RegIx) (s : State) : Host.Outcome State Fault Refusal :=
  runInstr (.mipsDivS ft fs fd) vecMipsDivS s

/-- R418: the vectors of `div.d fd, fs, ft`. -/
def vecMipsDivD : Vectors := { fs := { fpuOp := .fDiv, width := .double, fpuRegWrite := true } }
/-- R418: `div.d fd, fs, ft`: `f[fd] <- FpDiv(Double, RNE, f[fs], f[ft]); pc <- pc + 4`. -/
def execMipsDivD (ft fs fd : RegIx) (s : State) : Host.Outcome State Fault Refusal :=
  runInstr (.mipsDivD ft fs fd) vecMipsDivD s

/-- R419: the vectors of `sqrt.s fd, fs`. -/
def vecMipsSqrtS : Vectors := { fs := { fpuOp := .fSqrt, fpuRegWrite := true } }
/-- R419: `sqrt.s fd, fs`: `f[fd] <- FpSqrt(Word, RNE, f[fs]), upper 32 bits zero; pc <- pc + 4`. -/
def execMipsSqrtS (fs fd : RegIx) (s : State) : Host.Outcome State Fault Refusal :=
  runInstr (.mipsSqrtS fs fd) vecMipsSqrtS s

/-- R420: the vectors of `sqrt.d fd, fs`. -/
def vecMipsSqrtD : Vectors := { fs := { fpuOp := .fSqrt, width := .double, fpuRegWrite := true } }
/-- R420: `sqrt.d fd, fs`: `f[fd] <- FpSqrt(Double, RNE, f[fs]); pc <- pc + 4`. -/
def execMipsSqrtD (fs fd : RegIx) (s : State) : Host.Outcome State Fault Refusal :=
  runInstr (.mipsSqrtD fs fd) vecMipsSqrtD s

/-- R421: the vectors of `c.eq.s fs, ft`. -/
def vecMipsCEqS : Vectors := { fs := { cmpOp := .cmpEq, ccWrite := true } }
/-- R421: `c.eq.s fs, ft`: `cc <- FpEq(Word, f[fs], f[ft]); pc <- pc + 4`. -/
def execMipsCEqS (ft fs : RegIx) (s : State) : Host.Outcome State Fault Refusal :=
  runInstr (.mipsCEqS ft fs) vecMipsCEqS s

/-- R422: the vectors of `c.eq.d fs, ft`. -/
def vecMipsCEqD : Vectors := { fs := { cmpOp := .cmpEq, width := .double, ccWrite := true } }
/-- R422: `c.eq.d fs, ft`: `cc <- FpEq(Double, f[fs], f[ft]); pc <- pc + 4`. -/
def execMipsCEqD (ft fs : RegIx) (s : State) : Host.Outcome State Fault Refusal :=
  runInstr (.mipsCEqD ft fs) vecMipsCEqD s

/-- R423: the vectors of `c.lt.s fs, ft`. -/
def vecMipsCLtS : Vectors := { fs := { cmpOp := .cmpLt, ccWrite := true } }
/-- R423: `c.lt.s fs, ft`: `cc <- FpLt(Word, f[fs], f[ft]); pc <- pc + 4`. -/
def execMipsCLtS (ft fs : RegIx) (s : State) : Host.Outcome State Fault Refusal :=
  runInstr (.mipsCLtS ft fs) vecMipsCLtS s

/-- R424: the vectors of `c.lt.d fs, ft`. -/
def vecMipsCLtD : Vectors := { fs := { cmpOp := .cmpLt, width := .double, ccWrite := true } }
/-- R424: `c.lt.d fs, ft`: `cc <- FpLt(Double, f[fs], f[ft]); pc <- pc + 4`. -/
def execMipsCLtD (ft fs : RegIx) (s : State) : Host.Outcome State Fault Refusal :=
  runInstr (.mipsCLtD ft fs) vecMipsCLtD s

/-- R425: the vectors of `c.le.s fs, ft`. -/
def vecMipsCLeS : Vectors := { fs := { cmpOp := .cmpLe, ccWrite := true } }
/-- R425: `c.le.s fs, ft`: `cc <- FpLe(Word, f[fs], f[ft]); pc <- pc + 4`. -/
def execMipsCLeS (ft fs : RegIx) (s : State) : Host.Outcome State Fault Refusal :=
  runInstr (.mipsCLeS ft fs) vecMipsCLeS s

/-- R426: the vectors of `c.le.d fs, ft`. -/
def vecMipsCLeD : Vectors := { fs := { cmpOp := .cmpLe, width := .double, ccWrite := true } }
/-- R426: `c.le.d fs, ft`: `cc <- FpLe(Double, f[fs], f[ft]); pc <- pc + 4`. -/
def execMipsCLeD (ft fs : RegIx) (s : State) : Host.Outcome State Fault Refusal :=
  runInstr (.mipsCLeD ft fs) vecMipsCLeD s

end Sys2Proof.Machine
end

