-- ==== Sys2Proof/Machine/MipsInteger.lean ====
section
/-! DEFINITION. The meanings of the integer computational instructions of `MIPS64L` (spec/41_mips_integer.md R301 to R349): each
instruction's two control vectors and its run through the four stages (spec/00_scope.md R20). A docstring quotes the net effect
its rule gives. -/

namespace Sys2Proof.Machine

/-- R301: the vectors of `add rd, rs, rt`. -/
def vecMipsAdd : Vectors := { cs := { aluOp := .add32, regWrite := true } }
/-- R301: `add rd, rs, rt`: `x[rd] <- sext32((x[rs][31:0] + x[rt][31:0]) mod 2^32); pc <- pc + 4`. -/
def execMipsAdd (rs rt rd : RegIx) (shamt : BitVec 5) (s : State) : Host.Outcome State Fault Refusal :=
  runInstr (.mipsAdd rs rt rd shamt) vecMipsAdd s

/-- R302: the vectors of `addu rd, rs, rt`. -/
def vecMipsAddu : Vectors := { cs := { aluOp := .add32, regWrite := true } }
/-- R302: `addu rd, rs, rt`: `x[rd] <- sext32((x[rs][31:0] + x[rt][31:0]) mod 2^32); pc <- pc + 4`. -/
def execMipsAddu (rs rt rd : RegIx) (shamt : BitVec 5) (s : State) : Host.Outcome State Fault Refusal :=
  runInstr (.mipsAddu rs rt rd shamt) vecMipsAddu s

/-- R303: the vectors of `sub rd, rs, rt`. -/
def vecMipsSub : Vectors := { cs := { aluOp := .sub32, regWrite := true } }
/-- R303: `sub rd, rs, rt`: `x[rd] <- sext32((x[rs][31:0] - x[rt][31:0]) mod 2^32); pc <- pc + 4`. -/
def execMipsSub (rs rt rd : RegIx) (shamt : BitVec 5) (s : State) : Host.Outcome State Fault Refusal :=
  runInstr (.mipsSub rs rt rd shamt) vecMipsSub s

/-- R304: the vectors of `subu rd, rs, rt`. -/
def vecMipsSubu : Vectors := { cs := { aluOp := .sub32, regWrite := true } }
/-- R304: `subu rd, rs, rt`: `x[rd] <- sext32((x[rs][31:0] - x[rt][31:0]) mod 2^32); pc <- pc + 4`. -/
def execMipsSubu (rs rt rd : RegIx) (shamt : BitVec 5) (s : State) : Host.Outcome State Fault Refusal :=
  runInstr (.mipsSubu rs rt rd shamt) vecMipsSubu s

/-- R305: the vectors of `and rd, rs, rt`. -/
def vecMipsAnd : Vectors := { cs := { aluOp := .and, regWrite := true } }
/-- R305: `and rd, rs, rt`: `x[rd] <- x[rs] & x[rt]; pc <- pc + 4`. -/
def execMipsAnd (rs rt rd : RegIx) (shamt : BitVec 5) (s : State) : Host.Outcome State Fault Refusal :=
  runInstr (.mipsAnd rs rt rd shamt) vecMipsAnd s

/-- R306: the vectors of `or rd, rs, rt`. -/
def vecMipsOr : Vectors := { cs := { aluOp := .or, regWrite := true } }
/-- R306: `or rd, rs, rt`: `x[rd] <- x[rs] | x[rt]; pc <- pc + 4`. -/
def execMipsOr (rs rt rd : RegIx) (shamt : BitVec 5) (s : State) : Host.Outcome State Fault Refusal :=
  runInstr (.mipsOr rs rt rd shamt) vecMipsOr s

/-- R307: the vectors of `xor rd, rs, rt`. -/
def vecMipsXor : Vectors := { cs := { aluOp := .xor, regWrite := true } }
/-- R307: `xor rd, rs, rt`: `x[rd] <- x[rs] ^ x[rt]; pc <- pc + 4`. -/
def execMipsXor (rs rt rd : RegIx) (shamt : BitVec 5) (s : State) : Host.Outcome State Fault Refusal :=
  runInstr (.mipsXor rs rt rd shamt) vecMipsXor s

/-- R308: the vectors of `nor rd, rs, rt`. -/
def vecMipsNor : Vectors := { cs := { aluOp := .nor, regWrite := true } }
/-- R308: `nor rd, rs, rt`: `x[rd] <- ~(x[rs] | x[rt]); pc <- pc + 4`. -/
def execMipsNor (rs rt rd : RegIx) (shamt : BitVec 5) (s : State) : Host.Outcome State Fault Refusal :=
  runInstr (.mipsNor rs rt rd shamt) vecMipsNor s

/-- R309: the vectors of `slt rd, rs, rt`. -/
def vecMipsSlt : Vectors := { cs := { aluOp := .slt, regWrite := true } }
/-- R309: `slt rd, rs, rt`: `x[rd] <- 1 if s_64(x[rs]) < s_64(x[rt]) else 0; pc <- pc + 4`. -/
def execMipsSlt (rs rt rd : RegIx) (shamt : BitVec 5) (s : State) : Host.Outcome State Fault Refusal :=
  runInstr (.mipsSlt rs rt rd shamt) vecMipsSlt s

/-- R310: the vectors of `sltu rd, rs, rt`. -/
def vecMipsSltu : Vectors := { cs := { aluOp := .sltu, regWrite := true } }
/-- R310: `sltu rd, rs, rt`: `x[rd] <- 1 if u(x[rs]) < u(x[rt]) else 0; pc <- pc + 4`. -/
def execMipsSltu (rs rt rd : RegIx) (shamt : BitVec 5) (s : State) : Host.Outcome State Fault Refusal :=
  runInstr (.mipsSltu rs rt rd shamt) vecMipsSltu s

/-- R311: the vectors of `dadd rd, rs, rt`. -/
def vecMipsDadd : Vectors := { cs := { aluOp := .add64, regWrite := true } }
/-- R311: `dadd rd, rs, rt`: `x[rd] <- (x[rs] + x[rt]) mod 2^64; pc <- pc + 4`. -/
def execMipsDadd (rs rt rd : RegIx) (shamt : BitVec 5) (s : State) : Host.Outcome State Fault Refusal :=
  runInstr (.mipsDadd rs rt rd shamt) vecMipsDadd s

/-- R312: the vectors of `daddu rd, rs, rt`. -/
def vecMipsDaddu : Vectors := { cs := { aluOp := .add64, regWrite := true } }
/-- R312: `daddu rd, rs, rt`: `x[rd] <- (x[rs] + x[rt]) mod 2^64; pc <- pc + 4`. -/
def execMipsDaddu (rs rt rd : RegIx) (shamt : BitVec 5) (s : State) : Host.Outcome State Fault Refusal :=
  runInstr (.mipsDaddu rs rt rd shamt) vecMipsDaddu s

/-- R313: the vectors of `dsub rd, rs, rt`. -/
def vecMipsDsub : Vectors := { cs := { aluOp := .sub64, regWrite := true } }
/-- R313: `dsub rd, rs, rt`: `x[rd] <- (x[rs] - x[rt]) mod 2^64; pc <- pc + 4`. -/
def execMipsDsub (rs rt rd : RegIx) (shamt : BitVec 5) (s : State) : Host.Outcome State Fault Refusal :=
  runInstr (.mipsDsub rs rt rd shamt) vecMipsDsub s

/-- R314: the vectors of `dsubu rd, rs, rt`. -/
def vecMipsDsubu : Vectors := { cs := { aluOp := .sub64, regWrite := true } }
/-- R314: `dsubu rd, rs, rt`: `x[rd] <- (x[rs] - x[rt]) mod 2^64; pc <- pc + 4`. -/
def execMipsDsubu (rs rt rd : RegIx) (shamt : BitVec 5) (s : State) : Host.Outcome State Fault Refusal :=
  runInstr (.mipsDsubu rs rt rd shamt) vecMipsDsubu s

/-- R315: the vectors of `sll rd, rt, sa`. -/
def vecMipsSll (sa : BitVec 5) : Vectors := { cs := { op1Src := .rs2, aluOp := .sll32 sa, regWrite := true } }
/-- R315: `sll rd, rt, sa`: `x[rd] <- sext32((x[rt][31:0] << sa) mod 2^32); pc <- pc + 4`. -/
def execMipsSll (rs rt rd : RegIx) (sa : BitVec 5) (s : State) : Host.Outcome State Fault Refusal :=
  runInstr (.mipsSll rs rt rd sa) (vecMipsSll sa) s

/-- R316: the vectors of `srl rd, rt, sa`. -/
def vecMipsSrl (sa : BitVec 5) : Vectors := { cs := { op1Src := .rs2, aluOp := .srl32 sa, regWrite := true } }
/-- R316: `srl rd, rt, sa`: `x[rd] <- sext32(u(x[rt][31:0]) >> sa); pc <- pc + 4`. -/
def execMipsSrl (rs rt rd : RegIx) (sa : BitVec 5) (s : State) : Host.Outcome State Fault Refusal :=
  runInstr (.mipsSrl rs rt rd sa) (vecMipsSrl sa) s

/-- R317: the vectors of `sra rd, rt, sa`. -/
def vecMipsSra (sa : BitVec 5) : Vectors := { cs := { op1Src := .rs2, aluOp := .sra32 sa, regWrite := true } }
/-- R317: `sra rd, rt, sa`: `x[rd] <- sext32(s_32(x[rt][31:0]) >> sa); pc <- pc + 4`. -/
def execMipsSra (rs rt rd : RegIx) (sa : BitVec 5) (s : State) : Host.Outcome State Fault Refusal :=
  runInstr (.mipsSra rs rt rd sa) (vecMipsSra sa) s

/-- R318: the vectors of `dsll rd, rt, sa`. -/
def vecMipsDsll (sa : BitVec 5) : Vectors := { cs := { op1Src := .rs2, aluOp := .sll64 (sa.setWidth 6), regWrite := true } }
/-- R318: `dsll rd, rt, sa`: `x[rd] <- (x[rt] << sa) mod 2^64; pc <- pc + 4`. -/
def execMipsDsll (rs rt rd : RegIx) (sa : BitVec 5) (s : State) : Host.Outcome State Fault Refusal :=
  runInstr (.mipsDsll rs rt rd sa) (vecMipsDsll sa) s

/-- R319: the vectors of `dsrl rd, rt, sa`. -/
def vecMipsDsrl (sa : BitVec 5) : Vectors := { cs := { op1Src := .rs2, aluOp := .srl64 (sa.setWidth 6), regWrite := true } }
/-- R319: `dsrl rd, rt, sa`: `x[rd] <- u(x[rt]) >> sa; pc <- pc + 4`. -/
def execMipsDsrl (rs rt rd : RegIx) (sa : BitVec 5) (s : State) : Host.Outcome State Fault Refusal :=
  runInstr (.mipsDsrl rs rt rd sa) (vecMipsDsrl sa) s

/-- R320: the vectors of `dsra rd, rt, sa`. -/
def vecMipsDsra (sa : BitVec 5) : Vectors := { cs := { op1Src := .rs2, aluOp := .sra64 (sa.setWidth 6), regWrite := true } }
/-- R320: `dsra rd, rt, sa`: `x[rd] <- s_64(x[rt]) >> sa; pc <- pc + 4`. -/
def execMipsDsra (rs rt rd : RegIx) (sa : BitVec 5) (s : State) : Host.Outcome State Fault Refusal :=
  runInstr (.mipsDsra rs rt rd sa) (vecMipsDsra sa) s

/-- R321: the vectors of `dsll32 rd, rt, sa`. -/
def vecMipsDsll32 (sa : BitVec 5) : Vectors :=
  { cs := { op1Src := .rs2, aluOp := .sll64 (sa.setWidth 6 + 32), regWrite := true } }
/-- R321: `dsll32 rd, rt, sa`: `x[rd] <- (x[rt] << (sa + 32)) mod 2^64; pc <- pc + 4`. -/
def execMipsDsll32 (rs rt rd : RegIx) (sa : BitVec 5) (s : State) : Host.Outcome State Fault Refusal :=
  runInstr (.mipsDsll32 rs rt rd sa) (vecMipsDsll32 sa) s

/-- R322: the vectors of `dsrl32 rd, rt, sa`. -/
def vecMipsDsrl32 (sa : BitVec 5) : Vectors :=
  { cs := { op1Src := .rs2, aluOp := .srl64 (sa.setWidth 6 + 32), regWrite := true } }
/-- R322: `dsrl32 rd, rt, sa`: `x[rd] <- u(x[rt]) >> (sa + 32); pc <- pc + 4`. -/
def execMipsDsrl32 (rs rt rd : RegIx) (sa : BitVec 5) (s : State) : Host.Outcome State Fault Refusal :=
  runInstr (.mipsDsrl32 rs rt rd sa) (vecMipsDsrl32 sa) s

/-- R323: the vectors of `dsra32 rd, rt, sa`. -/
def vecMipsDsra32 (sa : BitVec 5) : Vectors :=
  { cs := { op1Src := .rs2, aluOp := .sra64 (sa.setWidth 6 + 32), regWrite := true } }
/-- R323: `dsra32 rd, rt, sa`: `x[rd] <- s_64(x[rt]) >> (sa + 32); pc <- pc + 4`. -/
def execMipsDsra32 (rs rt rd : RegIx) (sa : BitVec 5) (s : State) : Host.Outcome State Fault Refusal :=
  runInstr (.mipsDsra32 rs rt rd sa) (vecMipsDsra32 sa) s

/-- R324: the vectors of `mul rd, rs, rt`. -/
def vecMipsMul : Vectors := { cs := { aluOp := .mul32, regWrite := true } }
/-- R324: `mul rd, rs, rt`: `x[rd] <- sext32((x[rs][31:0] * x[rt][31:0]) mod 2^32); pc <- pc + 4`. -/
def execMipsMul (rs rt rd : RegIx) (s : State) : Host.Outcome State Fault Refusal :=
  runInstr (.mipsMul rs rt rd) vecMipsMul s

/-- R325: the vectors of `muh rd, rs, rt`. -/
def vecMipsMuh : Vectors := { cs := { aluOp := .mulh32, regWrite := true } }
/-- R325: `muh rd, rs, rt`: `x[rd] <- sext32((s_32(x[rs][31:0]) * s_32(x[rt][31:0]))[63:32]); pc <- pc + 4`. -/
def execMipsMuh (rs rt rd : RegIx) (s : State) : Host.Outcome State Fault Refusal :=
  runInstr (.mipsMuh rs rt rd) vecMipsMuh s

/-- R326: the vectors of `mulu rd, rs, rt`. -/
def vecMipsMulu : Vectors := { cs := { aluOp := .mul32, regWrite := true } }
/-- R326: `mulu rd, rs, rt`: `x[rd] <- sext32((x[rs][31:0] * x[rt][31:0]) mod 2^32); pc <- pc + 4`. -/
def execMipsMulu (rs rt rd : RegIx) (s : State) : Host.Outcome State Fault Refusal :=
  runInstr (.mipsMulu rs rt rd) vecMipsMulu s

/-- R327: the vectors of `muhu rd, rs, rt`. -/
def vecMipsMuhu : Vectors := { cs := { aluOp := .mulhu32, regWrite := true } }
/-- R327: `muhu rd, rs, rt`: `x[rd] <- sext32((u(x[rs][31:0]) * u(x[rt][31:0]))[63:32]); pc <- pc + 4`. -/
def execMipsMuhu (rs rt rd : RegIx) (s : State) : Host.Outcome State Fault Refusal :=
  runInstr (.mipsMuhu rs rt rd) vecMipsMuhu s

/-- R328: the vectors of `div rd, rs, rt`. -/
def vecMipsDiv : Vectors := { cs := { aluOp := .div32, regWrite := true } }
/-- R328: `div rd, rs, rt`: `x[rd] <- Div32(x[rs], x[rt]); pc <- pc + 4`. -/
def execMipsDiv (rs rt rd : RegIx) (s : State) : Host.Outcome State Fault Refusal :=
  runInstr (.mipsDiv rs rt rd) vecMipsDiv s

/-- R329: the vectors of `mod rd, rs, rt`. -/
def vecMipsMod : Vectors := { cs := { aluOp := .rem32, regWrite := true } }
/-- R329: `mod rd, rs, rt`: `x[rd] <- Rem32(x[rs], x[rt]); pc <- pc + 4`. -/
def execMipsMod (rs rt rd : RegIx) (s : State) : Host.Outcome State Fault Refusal :=
  runInstr (.mipsMod rs rt rd) vecMipsMod s

/-- R330: the vectors of `divu rd, rs, rt`. -/
def vecMipsDivu : Vectors := { cs := { aluOp := .divu32, regWrite := true } }
/-- R330: `divu rd, rs, rt`: `x[rd] <- Divu32(x[rs], x[rt]); pc <- pc + 4`. -/
def execMipsDivu (rs rt rd : RegIx) (s : State) : Host.Outcome State Fault Refusal :=
  runInstr (.mipsDivu rs rt rd) vecMipsDivu s

/-- R331: the vectors of `modu rd, rs, rt`. -/
def vecMipsModu : Vectors := { cs := { aluOp := .remu32, regWrite := true } }
/-- R331: `modu rd, rs, rt`: `x[rd] <- Remu32(x[rs], x[rt]); pc <- pc + 4`. -/
def execMipsModu (rs rt rd : RegIx) (s : State) : Host.Outcome State Fault Refusal :=
  runInstr (.mipsModu rs rt rd) vecMipsModu s

/-- R332: the vectors of `dmul rd, rs, rt`. -/
def vecMipsDmul : Vectors := { cs := { aluOp := .mul64, regWrite := true } }
/-- R332: `dmul rd, rs, rt`: `x[rd] <- (x[rs] * x[rt]) mod 2^64; pc <- pc + 4`. -/
def execMipsDmul (rs rt rd : RegIx) (s : State) : Host.Outcome State Fault Refusal :=
  runInstr (.mipsDmul rs rt rd) vecMipsDmul s

/-- R333: the vectors of `dmuh rd, rs, rt`. -/
def vecMipsDmuh : Vectors := { cs := { aluOp := .mulh64, regWrite := true } }
/-- R333: `dmuh rd, rs, rt`: `x[rd] <- (s_64(x[rs]) * s_64(x[rt]))[127:64]; pc <- pc + 4`. -/
def execMipsDmuh (rs rt rd : RegIx) (s : State) : Host.Outcome State Fault Refusal :=
  runInstr (.mipsDmuh rs rt rd) vecMipsDmuh s

/-- R334: the vectors of `dmulu rd, rs, rt`. -/
def vecMipsDmulu : Vectors := { cs := { aluOp := .mul64, regWrite := true } }
/-- R334: `dmulu rd, rs, rt`: `x[rd] <- (x[rs] * x[rt]) mod 2^64; pc <- pc + 4`. -/
def execMipsDmulu (rs rt rd : RegIx) (s : State) : Host.Outcome State Fault Refusal :=
  runInstr (.mipsDmulu rs rt rd) vecMipsDmulu s

/-- R335: the vectors of `dmuhu rd, rs, rt`. -/
def vecMipsDmuhu : Vectors := { cs := { aluOp := .mulhu64, regWrite := true } }
/-- R335: `dmuhu rd, rs, rt`: `x[rd] <- (u(x[rs]) * u(x[rt]))[127:64]; pc <- pc + 4`. -/
def execMipsDmuhu (rs rt rd : RegIx) (s : State) : Host.Outcome State Fault Refusal :=
  runInstr (.mipsDmuhu rs rt rd) vecMipsDmuhu s

/-- R336: the vectors of `ddiv rd, rs, rt`. -/
def vecMipsDdiv : Vectors := { cs := { aluOp := .div64, regWrite := true } }
/-- R336: `ddiv rd, rs, rt`: `x[rd] <- Div64(x[rs], x[rt]); pc <- pc + 4`. -/
def execMipsDdiv (rs rt rd : RegIx) (s : State) : Host.Outcome State Fault Refusal :=
  runInstr (.mipsDdiv rs rt rd) vecMipsDdiv s

/-- R337: the vectors of `dmod rd, rs, rt`. -/
def vecMipsDmod : Vectors := { cs := { aluOp := .rem64, regWrite := true } }
/-- R337: `dmod rd, rs, rt`: `x[rd] <- Rem64(x[rs], x[rt]); pc <- pc + 4`. -/
def execMipsDmod (rs rt rd : RegIx) (s : State) : Host.Outcome State Fault Refusal :=
  runInstr (.mipsDmod rs rt rd) vecMipsDmod s

/-- R338: the vectors of `ddivu rd, rs, rt`. -/
def vecMipsDdivu : Vectors := { cs := { aluOp := .divu64, regWrite := true } }
/-- R338: `ddivu rd, rs, rt`: `x[rd] <- Divu64(x[rs], x[rt]); pc <- pc + 4`. -/
def execMipsDdivu (rs rt rd : RegIx) (s : State) : Host.Outcome State Fault Refusal :=
  runInstr (.mipsDdivu rs rt rd) vecMipsDdivu s

/-- R339: the vectors of `dmodu rd, rs, rt`. -/
def vecMipsDmodu : Vectors := { cs := { aluOp := .remu64, regWrite := true } }
/-- R339: `dmodu rd, rs, rt`: `x[rd] <- Remu64(x[rs], x[rt]); pc <- pc + 4`. -/
def execMipsDmodu (rs rt rd : RegIx) (s : State) : Host.Outcome State Fault Refusal :=
  runInstr (.mipsDmodu rs rt rd) vecMipsDmodu s

/-- R340: the vectors of `addi rt, rs, imm`. -/
def vecMipsAddi : Vectors := { cs := { op2Src := .imm, aluOp := .add32, regDst := .rs2Slot, regWrite := true } }
/-- R340: `addi rt, rs, imm`: `x[rt] <- sext32((x[rs][31:0] + imm[31:0]) mod 2^32); pc <- pc + 4`. -/
def execMipsAddi (rs rt : RegIx) (imm16 : BitVec 16) (s : State) : Host.Outcome State Fault Refusal :=
  runInstr (.mipsAddi rs rt imm16) vecMipsAddi s

/-- R341: the vectors of `addiu rt, rs, imm`. -/
def vecMipsAddiu : Vectors := { cs := { op2Src := .imm, aluOp := .add32, regDst := .rs2Slot, regWrite := true } }
/-- R341: `addiu rt, rs, imm`: `x[rt] <- sext32((x[rs][31:0] + imm[31:0]) mod 2^32); pc <- pc + 4`. -/
def execMipsAddiu (rs rt : RegIx) (imm16 : BitVec 16) (s : State) : Host.Outcome State Fault Refusal :=
  runInstr (.mipsAddiu rs rt imm16) vecMipsAddiu s

/-- R342: the vectors of `slti rt, rs, imm`. -/
def vecMipsSlti : Vectors := { cs := { op2Src := .imm, aluOp := .slt, regDst := .rs2Slot, regWrite := true } }
/-- R342: `slti rt, rs, imm`: `x[rt] <- 1 if s_64(x[rs]) < s_64(imm) else 0; pc <- pc + 4`. -/
def execMipsSlti (rs rt : RegIx) (imm16 : BitVec 16) (s : State) : Host.Outcome State Fault Refusal :=
  runInstr (.mipsSlti rs rt imm16) vecMipsSlti s

/-- R343: the vectors of `sltiu rt, rs, imm`. -/
def vecMipsSltiu : Vectors := { cs := { op2Src := .imm, aluOp := .sltu, regDst := .rs2Slot, regWrite := true } }
/-- R343: `sltiu rt, rs, imm`: `x[rt] <- 1 if u(x[rs]) < u(imm) else 0; pc <- pc + 4`. -/
def execMipsSltiu (rs rt : RegIx) (imm16 : BitVec 16) (s : State) : Host.Outcome State Fault Refusal :=
  runInstr (.mipsSltiu rs rt imm16) vecMipsSltiu s

/-- R344: the vectors of `andi rt, rs, imm`. -/
def vecMipsAndi : Vectors :=
  { cs := { op2Src := .imm, aluOp := .and, regDst := .rs2Slot, regWrite := true, immForm := .iUnsigned } }
/-- R344: `andi rt, rs, imm`: `x[rt] <- x[rs] & imm; pc <- pc + 4`. -/
def execMipsAndi (rs rt : RegIx) (imm16 : BitVec 16) (s : State) : Host.Outcome State Fault Refusal :=
  runInstr (.mipsAndi rs rt imm16) vecMipsAndi s

/-- R345: the vectors of `ori rt, rs, imm`. -/
def vecMipsOri : Vectors :=
  { cs := { op2Src := .imm, aluOp := .or, regDst := .rs2Slot, regWrite := true, immForm := .iUnsigned } }
/-- R345: `ori rt, rs, imm`: `x[rt] <- x[rs] | imm; pc <- pc + 4`. -/
def execMipsOri (rs rt : RegIx) (imm16 : BitVec 16) (s : State) : Host.Outcome State Fault Refusal :=
  runInstr (.mipsOri rs rt imm16) vecMipsOri s

/-- R346: the vectors of `xori rt, rs, imm`. -/
def vecMipsXori : Vectors :=
  { cs := { op2Src := .imm, aluOp := .xor, regDst := .rs2Slot, regWrite := true, immForm := .iUnsigned } }
/-- R346: `xori rt, rs, imm`: `x[rt] <- x[rs] ^ imm; pc <- pc + 4`. -/
def execMipsXori (rs rt : RegIx) (imm16 : BitVec 16) (s : State) : Host.Outcome State Fault Refusal :=
  runInstr (.mipsXori rs rt imm16) vecMipsXori s

/-- R347: the vectors of `lui rt, imm`. -/
def vecMipsLui : Vectors := { cs := { immForm := .upper, wbSrc := .imm, regDst := .rs2Slot, regWrite := true } }
/-- R347: `lui rt, imm`: `x[rt] <- sext_64({w[15:0], 0x0000}); pc <- pc + 4`. -/
def execMipsLui (rs rt : RegIx) (imm16 : BitVec 16) (s : State) : Host.Outcome State Fault Refusal :=
  runInstr (.mipsLui rs rt imm16) vecMipsLui s

/-- R348: the vectors of `daddi rt, rs, imm`. -/
def vecMipsDaddi : Vectors := { cs := { op2Src := .imm, aluOp := .add64, regDst := .rs2Slot, regWrite := true } }
/-- R348: `daddi rt, rs, imm`: `x[rt] <- (x[rs] + imm) mod 2^64; pc <- pc + 4`. -/
def execMipsDaddi (rs rt : RegIx) (imm16 : BitVec 16) (s : State) : Host.Outcome State Fault Refusal :=
  runInstr (.mipsDaddi rs rt imm16) vecMipsDaddi s

/-- R349: the vectors of `daddiu rt, rs, imm`. -/
def vecMipsDaddiu : Vectors := { cs := { op2Src := .imm, aluOp := .add64, regDst := .rs2Slot, regWrite := true } }
/-- R349: `daddiu rt, rs, imm`: `x[rt] <- (x[rs] + imm) mod 2^64; pc <- pc + 4`. -/
def execMipsDaddiu (rs rt : RegIx) (imm16 : BitVec 16) (s : State) : Host.Outcome State Fault Refusal :=
  runInstr (.mipsDaddiu rs rt imm16) vecMipsDaddiu s

end Sys2Proof.Machine
end

