-- ==== Sys2Proof/Machine/MipsMemControl.lean ====
section
/-! DEFINITION. The meanings of the loads, stores, branches, jumps and the system call of `MIPS64L` (spec/42_mips_memory_control.md R361 to R378): each
instruction's two control vectors and its run through the four stages (spec/00_scope.md R20). A docstring quotes the net effect
its rule gives. -/

namespace Sys2Proof.Machine

/-- R361: the vectors of `lb rt, offset(base)`. -/
def vecMipsLb : Vectors :=
  { cs := { op2Src := .imm, aluOp := .add64, memRead := .b, wbSrc := .mem, regDst := .rs2Slot, regWrite := true } }
/-- R361: `lb rt, offset(base)`: `a = (x[base] + sext_64(w[15:0])) mod 2^64; x[rt] <- sext_64(MemRead(a, 1)); pc <- pc + 4`. -/
def execMipsLb (base rt : RegIx) (imm16 : BitVec 16) (s : State) : Host.Outcome State Fault Refusal :=
  runInstr (.mipsLb base rt imm16) vecMipsLb s

/-- R362: the vectors of `lbu rt, offset(base)`. -/
def vecMipsLbu : Vectors :=
  { cs := { op2Src := .imm, aluOp := .add64, memRead := .bu, wbSrc := .mem, regDst := .rs2Slot, regWrite := true } }
/-- R362: `lbu rt, offset(base)`: `a = (x[base] + sext_64(w[15:0])) mod 2^64; x[rt] <- zext_64(MemRead(a, 1)); pc <- pc + 4`. -/
def execMipsLbu (base rt : RegIx) (imm16 : BitVec 16) (s : State) : Host.Outcome State Fault Refusal :=
  runInstr (.mipsLbu base rt imm16) vecMipsLbu s

/-- R363: the vectors of `lh rt, offset(base)`. -/
def vecMipsLh : Vectors :=
  { cs := { op2Src := .imm, aluOp := .add64, memRead := .h, wbSrc := .mem, regDst := .rs2Slot, regWrite := true } }
/-- R363: `lh rt, offset(base)`: `a = (x[base] + sext_64(w[15:0])) mod 2^64; x[rt] <- sext_64(MemRead(a, 2)); pc <- pc + 4`. -/
def execMipsLh (base rt : RegIx) (imm16 : BitVec 16) (s : State) : Host.Outcome State Fault Refusal :=
  runInstr (.mipsLh base rt imm16) vecMipsLh s

/-- R364: the vectors of `lhu rt, offset(base)`. -/
def vecMipsLhu : Vectors :=
  { cs := { op2Src := .imm, aluOp := .add64, memRead := .hu, wbSrc := .mem, regDst := .rs2Slot, regWrite := true } }
/-- R364: `lhu rt, offset(base)`: `a = (x[base] + sext_64(w[15:0])) mod 2^64; x[rt] <- zext_64(MemRead(a, 2)); pc <- pc + 4`. -/
def execMipsLhu (base rt : RegIx) (imm16 : BitVec 16) (s : State) : Host.Outcome State Fault Refusal :=
  runInstr (.mipsLhu base rt imm16) vecMipsLhu s

/-- R365: the vectors of `lw rt, offset(base)`. -/
def vecMipsLw : Vectors :=
  { cs := { op2Src := .imm, aluOp := .add64, memRead := .w, wbSrc := .mem, regDst := .rs2Slot, regWrite := true } }
/-- R365: `lw rt, offset(base)`: `a = (x[base] + sext_64(w[15:0])) mod 2^64; x[rt] <- sext_64(MemRead(a, 4)); pc <- pc + 4`. -/
def execMipsLw (base rt : RegIx) (imm16 : BitVec 16) (s : State) : Host.Outcome State Fault Refusal :=
  runInstr (.mipsLw base rt imm16) vecMipsLw s

/-- R366: the vectors of `lwu rt, offset(base)`. -/
def vecMipsLwu : Vectors :=
  { cs := { op2Src := .imm, aluOp := .add64, memRead := .wu, wbSrc := .mem, regDst := .rs2Slot, regWrite := true } }
/-- R366: `lwu rt, offset(base)`: `a = (x[base] + sext_64(w[15:0])) mod 2^64; x[rt] <- zext_64(MemRead(a, 4)); pc <- pc + 4`. -/
def execMipsLwu (base rt : RegIx) (imm16 : BitVec 16) (s : State) : Host.Outcome State Fault Refusal :=
  runInstr (.mipsLwu base rt imm16) vecMipsLwu s

/-- R367: the vectors of `ld rt, offset(base)`. -/
def vecMipsLd : Vectors :=
  { cs := { op2Src := .imm, aluOp := .add64, memRead := .d, wbSrc := .mem, regDst := .rs2Slot, regWrite := true } }
/-- R367: `ld rt, offset(base)`: `a = (x[base] + sext_64(w[15:0])) mod 2^64; x[rt] <- MemRead(a, 8); pc <- pc + 4`. -/
def execMipsLd (base rt : RegIx) (imm16 : BitVec 16) (s : State) : Host.Outcome State Fault Refusal :=
  runInstr (.mipsLd base rt imm16) vecMipsLd s

/-- R368: the vectors of `sb rt, offset(base)`. -/
def vecMipsSb : Vectors := { cs := { op2Src := .imm, aluOp := .add64, memWrite := .b } }
/-- R368: `sb rt, offset(base)`: `a = (x[base] + sext_64(w[15:0])) mod 2^64; MemWrite(a, 1, x[rt]); pc <- pc + 4`. -/
def execMipsSb (base rt : RegIx) (imm16 : BitVec 16) (s : State) : Host.Outcome State Fault Refusal :=
  runInstr (.mipsSb base rt imm16) vecMipsSb s

/-- R369: the vectors of `sh rt, offset(base)`. -/
def vecMipsSh : Vectors := { cs := { op2Src := .imm, aluOp := .add64, memWrite := .h } }
/-- R369: `sh rt, offset(base)`: `a = (x[base] + sext_64(w[15:0])) mod 2^64; MemWrite(a, 2, x[rt]); pc <- pc + 4`. -/
def execMipsSh (base rt : RegIx) (imm16 : BitVec 16) (s : State) : Host.Outcome State Fault Refusal :=
  runInstr (.mipsSh base rt imm16) vecMipsSh s

/-- R370: the vectors of `sw rt, offset(base)`. -/
def vecMipsSw : Vectors := { cs := { op2Src := .imm, aluOp := .add64, memWrite := .w } }
/-- R370: `sw rt, offset(base)`: `a = (x[base] + sext_64(w[15:0])) mod 2^64; MemWrite(a, 4, x[rt]); pc <- pc + 4`. -/
def execMipsSw (base rt : RegIx) (imm16 : BitVec 16) (s : State) : Host.Outcome State Fault Refusal :=
  runInstr (.mipsSw base rt imm16) vecMipsSw s

/-- R371: the vectors of `sd rt, offset(base)`. -/
def vecMipsSd : Vectors := { cs := { op2Src := .imm, aluOp := .add64, memWrite := .d } }
/-- R371: `sd rt, offset(base)`: `a = (x[base] + sext_64(w[15:0])) mod 2^64; MemWrite(a, 8, x[rt]); pc <- pc + 4`. -/
def execMipsSd (base rt : RegIx) (imm16 : BitVec 16) (s : State) : Host.Outcome State Fault Refusal :=
  runInstr (.mipsSd base rt imm16) vecMipsSd s

/-- R372: the vectors of `beq rs, rt, offset`. -/
def vecMipsBeq : Vectors := { cs := { aluOp := .sub64, branch := .beq } }
/-- R372: `beq rs, rt, offset`: `target = (pc + 4 + (sext_64(w[15:0]) << 2)) mod 2^64; pc <- target if x[rs] = x[rt] else pc + 4`. -/
def execMipsBeq (rs rt : RegIx) (imm16 : BitVec 16) (s : State) : Host.Outcome State Fault Refusal :=
  runInstr (.mipsBeq rs rt imm16) vecMipsBeq s

/-- R373: the vectors of `bne rs, rt, offset`. -/
def vecMipsBne : Vectors := { cs := { aluOp := .sub64, branch := .bne } }
/-- R373: `bne rs, rt, offset`: `target = (pc + 4 + (sext_64(w[15:0]) << 2)) mod 2^64; pc <- target if x[rs] != x[rt] else pc + 4`. -/
def execMipsBne (rs rt : RegIx) (imm16 : BitVec 16) (s : State) : Host.Outcome State Fault Refusal :=
  runInstr (.mipsBne rs rt imm16) vecMipsBne s

/-- R374: the vectors of `j target`. -/
def vecMipsJ : Vectors := { cs := { jump := .jRegion } }
/-- R374: `j target`: `pc <- {(pc + 4)[63:28], w[25:0], 0b00}`. -/
def execMipsJ (index : BitVec 26) (s : State) : Host.Outcome State Fault Refusal :=
  runInstr (.mipsJ index) vecMipsJ s

/-- R375: the vectors of `jal target`. -/
def vecMipsJal : Vectors := { cs := { jump := .jRegion, wbSrc := .pcPlus4, regDst := .link, regWrite := true } }
/-- R375: `jal target`: `x[31] <- pc + 4; pc <- {(pc + 4)[63:28], w[25:0], 0b00}`. -/
def execMipsJal (index : BitVec 26) (s : State) : Host.Outcome State Fault Refusal :=
  runInstr (.mipsJal index) vecMipsJal s

/-- R376: the vectors of `jr rs`. -/
def vecMipsJr : Vectors := { cs := { jump := .jReg } }
/-- R376: `jr rs`: `pc <- x[rs]`. -/
def execMipsJr (rs rt rd : RegIx) (shamt : BitVec 5) (s : State) : Host.Outcome State Fault Refusal :=
  runInstr (.mipsJr rs rt rd shamt) vecMipsJr s

/-- R377: the vectors of `jalr rd, rs`. -/
def vecMipsJalr : Vectors := { cs := { jump := .jReg, wbSrc := .pcPlus4, regWrite := true } }
/-- R377: `jalr rd, rs`: `t = x[rs]; x[rd] <- pc + 4; pc <- t`. -/
def execMipsJalr (rs rt rd : RegIx) (shamt : BitVec 5) (s : State) : Host.Outcome State Fault Refusal :=
  runInstr (.mipsJalr rs rt rd shamt) vecMipsJalr s

/-- R378: the vectors of `syscall`. -/
def vecMipsSyscall : Vectors := { cs := { halt := true } }
/-- R378: `syscall`: `pc <- pc + 4; run <- Halted`. -/
def execMipsSyscall (rs rt rd : RegIx) (shamt : BitVec 5) (s : State) : Host.Outcome State Fault Refusal :=
  runInstr (.mipsSyscall rs rt rd shamt) vecMipsSyscall s

end Sys2Proof.Machine
end

