-- ==== Sys2Proof/Machine/RvFp.lean ====
section
/-! DEFINITION. The meanings of the floating-point instructions of `RV64L` (spec/46_rv_fp.md R571 to R614): each
instruction's two control vectors and its run through the four stages (spec/00_scope.md R20). A docstring quotes the net effect
its rule gives. -/

namespace Sys2Proof.Machine

/-- R571: the vectors of `flw fd, imm(rs1)`. -/
def vecRvFlw : Vectors :=
  { cs := { op2Src := .imm, aluOp := .add64, memRead := .wu }, fs := { dataSrc := .memData, dataWrite := true, fpuWbSrc := .fromData, fpuRegWrite := true } }
/-- R571: `flw fd, imm(rs1)`: `a = (x[rs1] + sext_64(w[31:20])) mod 2^64; data <- zext_64(MemRead(a, 4)); f[rd] <- data; pc <- pc + 4`. -/
def execRvFlw (imm12 : BitVec 12) (rs1 fd : RegIx) (s : State) : Host.Outcome State Fault Refusal :=
  runInstr (.rvFlw imm12 rs1 fd) vecRvFlw s

/-- R572: the vectors of `fld fd, imm(rs1)`. -/
def vecRvFld : Vectors :=
  { cs := { op2Src := .imm, aluOp := .add64, memRead := .d }, fs := { width := .double, dataSrc := .memData, dataWrite := true, fpuWbSrc := .fromData, fpuRegWrite := true } }
/-- R572: `fld fd, imm(rs1)`: `a = (x[rs1] + sext_64(w[31:20])) mod 2^64; data <- MemRead(a, 8); f[rd] <- data; pc <- pc + 4`. -/
def execRvFld (imm12 : BitVec 12) (rs1 fd : RegIx) (s : State) : Host.Outcome State Fault Refusal :=
  runInstr (.rvFld imm12 rs1 fd) vecRvFld s

/-- R573: the vectors of `fsw fs2, imm(rs1)`. -/
def vecRvFsw : Vectors :=
  { cs := { op2Src := .imm, immForm := .s, aluOp := .add64, memWrite := .w, memWriteSrc := .copData }, fs := { dataSrc := .fpB, dataWrite := true } }
/-- R573: `fsw fs2, imm(rs1)`: `a = (x[rs1] + sext_64({w[31:25], w[11:7]})) mod 2^64; data <- f[rs2]; MemWrite(a, 4, data); pc <- pc + 4`. -/
def execRvFsw (imm7 : BitVec 7) (fs2 rs1 : RegIx) (imm5 : BitVec 5) (s : State) : Host.Outcome State Fault Refusal :=
  runInstr (.rvFsw imm7 fs2 rs1 imm5) vecRvFsw s

/-- R574: the vectors of `fsd fs2, imm(rs1)`. -/
def vecRvFsd : Vectors :=
  { cs := { op2Src := .imm, immForm := .s, aluOp := .add64, memWrite := .d, memWriteSrc := .copData }, fs := { width := .double, dataSrc := .fpB, dataWrite := true } }
/-- R574: `fsd fs2, imm(rs1)`: `a = (x[rs1] + sext_64({w[31:25], w[11:7]})) mod 2^64; data <- f[rs2]; MemWrite(a, 8, data); pc <- pc + 4`. -/
def execRvFsd (imm7 : BitVec 7) (fs2 rs1 : RegIx) (imm5 : BitVec 5) (s : State) : Host.Outcome State Fault Refusal :=
  runInstr (.rvFsd imm7 fs2 rs1 imm5) vecRvFsd s

/-- R575: the vectors of `fadd.s fd, fs1, fs2`. -/
def vecRvFaddS (rm : BitVec 3) : Vectors :=
  roundedVectors rm fun m => { fs := { fpuOp := .fAdd, round := m, fpuRegWrite := true } }
/-- R575: `fadd.s fd, fs1, fs2`: `f[rd] <- FpAdd(Word, rm, f[rs1], f[rs2]), upper 32 bits zero; pc <- pc + 4`. -/
def execRvFaddS (fs2 fs1 : RegIx) (rm : BitVec 3) (fd : RegIx) (s : State) : Host.Outcome State Fault Refusal :=
  runInstr (.rvFaddS fs2 fs1 rm fd) (vecRvFaddS rm) s

/-- R576: the vectors of `fadd.d fd, fs1, fs2`. -/
def vecRvFaddD (rm : BitVec 3) : Vectors :=
  roundedVectors rm fun m => { fs := { fpuOp := .fAdd, width := .double, round := m, fpuRegWrite := true } }
/-- R576: `fadd.d fd, fs1, fs2`: `f[rd] <- FpAdd(Double, rm, f[rs1], f[rs2]); pc <- pc + 4`. -/
def execRvFaddD (fs2 fs1 : RegIx) (rm : BitVec 3) (fd : RegIx) (s : State) : Host.Outcome State Fault Refusal :=
  runInstr (.rvFaddD fs2 fs1 rm fd) (vecRvFaddD rm) s

/-- R577: the vectors of `fsub.s fd, fs1, fs2`. -/
def vecRvFsubS (rm : BitVec 3) : Vectors :=
  roundedVectors rm fun m => { fs := { fpuOp := .fSub, round := m, fpuRegWrite := true } }
/-- R577: `fsub.s fd, fs1, fs2`: `f[rd] <- FpSub(Word, rm, f[rs1], f[rs2]), upper 32 bits zero; pc <- pc + 4`. -/
def execRvFsubS (fs2 fs1 : RegIx) (rm : BitVec 3) (fd : RegIx) (s : State) : Host.Outcome State Fault Refusal :=
  runInstr (.rvFsubS fs2 fs1 rm fd) (vecRvFsubS rm) s

/-- R578: the vectors of `fsub.d fd, fs1, fs2`. -/
def vecRvFsubD (rm : BitVec 3) : Vectors :=
  roundedVectors rm fun m => { fs := { fpuOp := .fSub, width := .double, round := m, fpuRegWrite := true } }
/-- R578: `fsub.d fd, fs1, fs2`: `f[rd] <- FpSub(Double, rm, f[rs1], f[rs2]); pc <- pc + 4`. -/
def execRvFsubD (fs2 fs1 : RegIx) (rm : BitVec 3) (fd : RegIx) (s : State) : Host.Outcome State Fault Refusal :=
  runInstr (.rvFsubD fs2 fs1 rm fd) (vecRvFsubD rm) s

/-- R579: the vectors of `fmul.s fd, fs1, fs2`. -/
def vecRvFmulS (rm : BitVec 3) : Vectors :=
  roundedVectors rm fun m => { fs := { fpuOp := .fMul, round := m, fpuRegWrite := true } }
/-- R579: `fmul.s fd, fs1, fs2`: `f[rd] <- FpMul(Word, rm, f[rs1], f[rs2]), upper 32 bits zero; pc <- pc + 4`. -/
def execRvFmulS (fs2 fs1 : RegIx) (rm : BitVec 3) (fd : RegIx) (s : State) : Host.Outcome State Fault Refusal :=
  runInstr (.rvFmulS fs2 fs1 rm fd) (vecRvFmulS rm) s

/-- R580: the vectors of `fmul.d fd, fs1, fs2`. -/
def vecRvFmulD (rm : BitVec 3) : Vectors :=
  roundedVectors rm fun m => { fs := { fpuOp := .fMul, width := .double, round := m, fpuRegWrite := true } }
/-- R580: `fmul.d fd, fs1, fs2`: `f[rd] <- FpMul(Double, rm, f[rs1], f[rs2]); pc <- pc + 4`. -/
def execRvFmulD (fs2 fs1 : RegIx) (rm : BitVec 3) (fd : RegIx) (s : State) : Host.Outcome State Fault Refusal :=
  runInstr (.rvFmulD fs2 fs1 rm fd) (vecRvFmulD rm) s

/-- R581: the vectors of `fdiv.s fd, fs1, fs2`. -/
def vecRvFdivS (rm : BitVec 3) : Vectors :=
  roundedVectors rm fun m => { fs := { fpuOp := .fDiv, round := m, fpuRegWrite := true } }
/-- R581: `fdiv.s fd, fs1, fs2`: `f[rd] <- FpDiv(Word, rm, f[rs1], f[rs2]), upper 32 bits zero; pc <- pc + 4`. -/
def execRvFdivS (fs2 fs1 : RegIx) (rm : BitVec 3) (fd : RegIx) (s : State) : Host.Outcome State Fault Refusal :=
  runInstr (.rvFdivS fs2 fs1 rm fd) (vecRvFdivS rm) s

/-- R582: the vectors of `fdiv.d fd, fs1, fs2`. -/
def vecRvFdivD (rm : BitVec 3) : Vectors :=
  roundedVectors rm fun m => { fs := { fpuOp := .fDiv, width := .double, round := m, fpuRegWrite := true } }
/-- R582: `fdiv.d fd, fs1, fs2`: `f[rd] <- FpDiv(Double, rm, f[rs1], f[rs2]); pc <- pc + 4`. -/
def execRvFdivD (fs2 fs1 : RegIx) (rm : BitVec 3) (fd : RegIx) (s : State) : Host.Outcome State Fault Refusal :=
  runInstr (.rvFdivD fs2 fs1 rm fd) (vecRvFdivD rm) s

/-- R583: the vectors of `fsqrt.s fd, fs1`. -/
def vecRvFsqrtS (rm : BitVec 3) : Vectors :=
  roundedVectors rm fun m => { fs := { fpuOp := .fSqrt, round := m, fpuRegWrite := true } }
/-- R583: `fsqrt.s fd, fs1`: `f[rd] <- FpSqrt(Word, rm, f[rs1]), upper 32 bits zero; pc <- pc + 4`. -/
def execRvFsqrtS (fs1 : RegIx) (rm : BitVec 3) (fd : RegIx) (s : State) : Host.Outcome State Fault Refusal :=
  runInstr (.rvFsqrtS fs1 rm fd) (vecRvFsqrtS rm) s

/-- R584: the vectors of `fsqrt.d fd, fs1`. -/
def vecRvFsqrtD (rm : BitVec 3) : Vectors :=
  roundedVectors rm fun m => { fs := { fpuOp := .fSqrt, width := .double, round := m, fpuRegWrite := true } }
/-- R584: `fsqrt.d fd, fs1`: `f[rd] <- FpSqrt(Double, rm, f[rs1]); pc <- pc + 4`. -/
def execRvFsqrtD (fs1 : RegIx) (rm : BitVec 3) (fd : RegIx) (s : State) : Host.Outcome State Fault Refusal :=
  runInstr (.rvFsqrtD fs1 rm fd) (vecRvFsqrtD rm) s

/-- R585: the vectors of `fsgnj.s fd, fs1, fs2`. -/
def vecRvFsgnjS : Vectors := { fs := { fpuOp := .fSgnj, fpuRegWrite := true } }
/-- R585: `fsgnj.s fd, fs1, fs2`: `f[rd] <- FpSgnj(Word, f[rs1], f[rs2]), upper 32 bits zero; pc <- pc + 4`. -/
def execRvFsgnjS (fs2 fs1 fd : RegIx) (s : State) : Host.Outcome State Fault Refusal :=
  runInstr (.rvFsgnjS fs2 fs1 fd) vecRvFsgnjS s

/-- R586: the vectors of `fsgnj.d fd, fs1, fs2`. -/
def vecRvFsgnjD : Vectors := { fs := { fpuOp := .fSgnj, width := .double, fpuRegWrite := true } }
/-- R586: `fsgnj.d fd, fs1, fs2`: `f[rd] <- FpSgnj(Double, f[rs1], f[rs2]); pc <- pc + 4`. -/
def execRvFsgnjD (fs2 fs1 fd : RegIx) (s : State) : Host.Outcome State Fault Refusal :=
  runInstr (.rvFsgnjD fs2 fs1 fd) vecRvFsgnjD s

/-- R587: the vectors of `fsgnjn.s fd, fs1, fs2`. -/
def vecRvFsgnjnS : Vectors := { fs := { fpuOp := .fSgnjn, fpuRegWrite := true } }
/-- R587: `fsgnjn.s fd, fs1, fs2`: `f[rd] <- FpSgnjn(Word, f[rs1], f[rs2]), upper 32 bits zero; pc <- pc + 4`. -/
def execRvFsgnjnS (fs2 fs1 fd : RegIx) (s : State) : Host.Outcome State Fault Refusal :=
  runInstr (.rvFsgnjnS fs2 fs1 fd) vecRvFsgnjnS s

/-- R588: the vectors of `fsgnjn.d fd, fs1, fs2`. -/
def vecRvFsgnjnD : Vectors := { fs := { fpuOp := .fSgnjn, width := .double, fpuRegWrite := true } }
/-- R588: `fsgnjn.d fd, fs1, fs2`: `f[rd] <- FpSgnjn(Double, f[rs1], f[rs2]); pc <- pc + 4`. -/
def execRvFsgnjnD (fs2 fs1 fd : RegIx) (s : State) : Host.Outcome State Fault Refusal :=
  runInstr (.rvFsgnjnD fs2 fs1 fd) vecRvFsgnjnD s

/-- R589: the vectors of `fsgnjx.s fd, fs1, fs2`. -/
def vecRvFsgnjxS : Vectors := { fs := { fpuOp := .fSgnjx, fpuRegWrite := true } }
/-- R589: `fsgnjx.s fd, fs1, fs2`: `f[rd] <- FpSgnjx(Word, f[rs1], f[rs2]), upper 32 bits zero; pc <- pc + 4`. -/
def execRvFsgnjxS (fs2 fs1 fd : RegIx) (s : State) : Host.Outcome State Fault Refusal :=
  runInstr (.rvFsgnjxS fs2 fs1 fd) vecRvFsgnjxS s

/-- R590: the vectors of `fsgnjx.d fd, fs1, fs2`. -/
def vecRvFsgnjxD : Vectors := { fs := { fpuOp := .fSgnjx, width := .double, fpuRegWrite := true } }
/-- R590: `fsgnjx.d fd, fs1, fs2`: `f[rd] <- FpSgnjx(Double, f[rs1], f[rs2]); pc <- pc + 4`. -/
def execRvFsgnjxD (fs2 fs1 fd : RegIx) (s : State) : Host.Outcome State Fault Refusal :=
  runInstr (.rvFsgnjxD fs2 fs1 fd) vecRvFsgnjxD s

/-- R591: the vectors of `fmin.s fd, fs1, fs2`. -/
def vecRvFminS : Vectors := { fs := { fpuOp := .fMin, fpuRegWrite := true } }
/-- R591: `fmin.s fd, fs1, fs2`: `f[rd] <- FpMin(Word, f[rs1], f[rs2]), upper 32 bits zero; pc <- pc + 4`. -/
def execRvFminS (fs2 fs1 fd : RegIx) (s : State) : Host.Outcome State Fault Refusal :=
  runInstr (.rvFminS fs2 fs1 fd) vecRvFminS s

/-- R592: the vectors of `fmin.d fd, fs1, fs2`. -/
def vecRvFminD : Vectors := { fs := { fpuOp := .fMin, width := .double, fpuRegWrite := true } }
/-- R592: `fmin.d fd, fs1, fs2`: `f[rd] <- FpMin(Double, f[rs1], f[rs2]); pc <- pc + 4`. -/
def execRvFminD (fs2 fs1 fd : RegIx) (s : State) : Host.Outcome State Fault Refusal :=
  runInstr (.rvFminD fs2 fs1 fd) vecRvFminD s

/-- R593: the vectors of `fmax.s fd, fs1, fs2`. -/
def vecRvFmaxS : Vectors := { fs := { fpuOp := .fMax, fpuRegWrite := true } }
/-- R593: `fmax.s fd, fs1, fs2`: `f[rd] <- FpMax(Word, f[rs1], f[rs2]), upper 32 bits zero; pc <- pc + 4`. -/
def execRvFmaxS (fs2 fs1 fd : RegIx) (s : State) : Host.Outcome State Fault Refusal :=
  runInstr (.rvFmaxS fs2 fs1 fd) vecRvFmaxS s

/-- R594: the vectors of `fmax.d fd, fs1, fs2`. -/
def vecRvFmaxD : Vectors := { fs := { fpuOp := .fMax, width := .double, fpuRegWrite := true } }
/-- R594: `fmax.d fd, fs1, fs2`: `f[rd] <- FpMax(Double, f[rs1], f[rs2]); pc <- pc + 4`. -/
def execRvFmaxD (fs2 fs1 fd : RegIx) (s : State) : Host.Outcome State Fault Refusal :=
  runInstr (.rvFmaxD fs2 fs1 fd) vecRvFmaxD s

/-- R595: the vectors of `feq.s rd, fs1, fs2`. -/
def vecRvFeqS : Vectors :=
  { cs := { regWrite := true }, fs := { cmpOp := .cmpEq, dataSrc := .cmpResult, dataWrite := true, ccWrite := true } }
/-- R595: `feq.s rd, fs1, fs2`: `t = FpEq(Word, f[rs1], f[rs2]); cc <- t; data <- zext_64(t); x[rd] <- data; pc <- pc + 4`. -/
def execRvFeqS (fs2 fs1 rd : RegIx) (s : State) : Host.Outcome State Fault Refusal :=
  runInstr (.rvFeqS fs2 fs1 rd) vecRvFeqS s

/-- R596: the vectors of `feq.d rd, fs1, fs2`. -/
def vecRvFeqD : Vectors :=
  { cs := { regWrite := true }, fs := { cmpOp := .cmpEq, width := .double, dataSrc := .cmpResult, dataWrite := true, ccWrite := true } }
/-- R596: `feq.d rd, fs1, fs2`: `t = FpEq(Double, f[rs1], f[rs2]); cc <- t; data <- zext_64(t); x[rd] <- data; pc <- pc + 4`. -/
def execRvFeqD (fs2 fs1 rd : RegIx) (s : State) : Host.Outcome State Fault Refusal :=
  runInstr (.rvFeqD fs2 fs1 rd) vecRvFeqD s

/-- R597: the vectors of `flt.s rd, fs1, fs2`. -/
def vecRvFltS : Vectors :=
  { cs := { regWrite := true }, fs := { cmpOp := .cmpLt, dataSrc := .cmpResult, dataWrite := true, ccWrite := true } }
/-- R597: `flt.s rd, fs1, fs2`: `t = FpLt(Word, f[rs1], f[rs2]); cc <- t; data <- zext_64(t); x[rd] <- data; pc <- pc + 4`. -/
def execRvFltS (fs2 fs1 rd : RegIx) (s : State) : Host.Outcome State Fault Refusal :=
  runInstr (.rvFltS fs2 fs1 rd) vecRvFltS s

/-- R598: the vectors of `flt.d rd, fs1, fs2`. -/
def vecRvFltD : Vectors :=
  { cs := { regWrite := true }, fs := { cmpOp := .cmpLt, width := .double, dataSrc := .cmpResult, dataWrite := true, ccWrite := true } }
/-- R598: `flt.d rd, fs1, fs2`: `t = FpLt(Double, f[rs1], f[rs2]); cc <- t; data <- zext_64(t); x[rd] <- data; pc <- pc + 4`. -/
def execRvFltD (fs2 fs1 rd : RegIx) (s : State) : Host.Outcome State Fault Refusal :=
  runInstr (.rvFltD fs2 fs1 rd) vecRvFltD s

/-- R599: the vectors of `fle.s rd, fs1, fs2`. -/
def vecRvFleS : Vectors :=
  { cs := { regWrite := true }, fs := { cmpOp := .cmpLe, dataSrc := .cmpResult, dataWrite := true, ccWrite := true } }
/-- R599: `fle.s rd, fs1, fs2`: `t = FpLe(Word, f[rs1], f[rs2]); cc <- t; data <- zext_64(t); x[rd] <- data; pc <- pc + 4`. -/
def execRvFleS (fs2 fs1 rd : RegIx) (s : State) : Host.Outcome State Fault Refusal :=
  runInstr (.rvFleS fs2 fs1 rd) vecRvFleS s

/-- R600: the vectors of `fle.d rd, fs1, fs2`. -/
def vecRvFleD : Vectors :=
  { cs := { regWrite := true }, fs := { cmpOp := .cmpLe, width := .double, dataSrc := .cmpResult, dataWrite := true, ccWrite := true } }
/-- R600: `fle.d rd, fs1, fs2`: `t = FpLe(Double, f[rs1], f[rs2]); cc <- t; data <- zext_64(t); x[rd] <- data; pc <- pc + 4`. -/
def execRvFleD (fs2 fs1 rd : RegIx) (s : State) : Host.Outcome State Fault Refusal :=
  runInstr (.rvFleD fs2 fs1 rd) vecRvFleD s

/-- R601: the vectors of `fclass.s rd, fs1`. -/
def vecRvFclassS : Vectors := { cs := { regWrite := true }, fs := { fpuOp := .fClass, dataSrc := .fpuResult, dataWrite := true } }
/-- R601: `fclass.s rd, fs1`: `data <- FpClass(Word, f[rs1]); x[rd] <- data; pc <- pc + 4`. -/
def execRvFclassS (fs1 rd : RegIx) (s : State) : Host.Outcome State Fault Refusal :=
  runInstr (.rvFclassS fs1 rd) vecRvFclassS s

/-- R602: the vectors of `fclass.d rd, fs1`. -/
def vecRvFclassD : Vectors :=
  { cs := { regWrite := true }, fs := { fpuOp := .fClass, width := .double, dataSrc := .fpuResult, dataWrite := true } }
/-- R602: `fclass.d rd, fs1`: `data <- FpClass(Double, f[rs1]); x[rd] <- data; pc <- pc + 4`. -/
def execRvFclassD (fs1 rd : RegIx) (s : State) : Host.Outcome State Fault Refusal :=
  runInstr (.rvFclassD fs1 rd) vecRvFclassD s

/-- R603: the vectors of `fmv.x.w rd, fs1`. -/
def vecRvFmvXW : Vectors := { cs := { regWrite := true }, fs := { dataSrc := .fpA, dataWrite := true } }
/-- R603: `fmv.x.w rd, fs1`: `data <- f[rs1]; x[rd] <- sext32(data[31:0]); pc <- pc + 4`. -/
def execRvFmvXW (fs1 rd : RegIx) (s : State) : Host.Outcome State Fault Refusal :=
  runInstr (.rvFmvXW fs1 rd) vecRvFmvXW s

/-- R604: the vectors of `fmv.x.d rd, fs1`. -/
def vecRvFmvXD : Vectors := { cs := { regWrite := true }, fs := { width := .double, dataSrc := .fpA, dataWrite := true } }
/-- R604: `fmv.x.d rd, fs1`: `data <- f[rs1]; x[rd] <- data; pc <- pc + 4`. -/
def execRvFmvXD (fs1 rd : RegIx) (s : State) : Host.Outcome State Fault Refusal :=
  runInstr (.rvFmvXD fs1 rd) vecRvFmvXD s

/-- R605: the vectors of `fmv.w.x fd, rs1`. -/
def vecRvFmvWX : Vectors := { fs := { dataWrite := true, fpuWbSrc := .fromData, fpuRegWrite := true } }
/-- R605: `fmv.w.x fd, rs1`: `data <- x[rs1]; f[rd] <- zext_64(data[31:0]); pc <- pc + 4`. -/
def execRvFmvWX (rs1 fd : RegIx) (s : State) : Host.Outcome State Fault Refusal :=
  runInstr (.rvFmvWX rs1 fd) vecRvFmvWX s

/-- R606: the vectors of `fmv.d.x fd, rs1`. -/
def vecRvFmvDX : Vectors := { fs := { width := .double, dataWrite := true, fpuWbSrc := .fromData, fpuRegWrite := true } }
/-- R606: `fmv.d.x fd, rs1`: `data <- x[rs1]; f[rd] <- data; pc <- pc + 4`. -/
def execRvFmvDX (rs1 fd : RegIx) (s : State) : Host.Outcome State Fault Refusal :=
  runInstr (.rvFmvDX rs1 fd) vecRvFmvDX s

/-- R607: the vectors of `fmadd.s fd, fs1, fs2, fs3`. -/
def vecRvFmaddS (rm : BitVec 3) : Vectors :=
  roundedVectors rm fun m => { fs := { fpuOp := .fMadd, round := m, fpuRegWrite := true } }
/-- R607: `fmadd.s fd, fs1, fs2, fs3`: `f[rd] <- (f[rs1] * f[rs2]) + f[rs3], one rounding in mode rm, upper 32 bits zero; pc <- pc + 4`. -/
def execRvFmaddS (fs3 fs2 fs1 : RegIx) (rm : BitVec 3) (fd : RegIx) (s : State) : Host.Outcome State Fault Refusal :=
  runInstr (.rvFmaddS fs3 fs2 fs1 rm fd) (vecRvFmaddS rm) s

/-- R608: the vectors of `fmadd.d fd, fs1, fs2, fs3`. -/
def vecRvFmaddD (rm : BitVec 3) : Vectors :=
  roundedVectors rm fun m => { fs := { fpuOp := .fMadd, width := .double, round := m, fpuRegWrite := true } }
/-- R608: `fmadd.d fd, fs1, fs2, fs3`: `f[rd] <- (f[rs1] * f[rs2]) + f[rs3], one rounding in mode rm; pc <- pc + 4`. -/
def execRvFmaddD (fs3 fs2 fs1 : RegIx) (rm : BitVec 3) (fd : RegIx) (s : State) : Host.Outcome State Fault Refusal :=
  runInstr (.rvFmaddD fs3 fs2 fs1 rm fd) (vecRvFmaddD rm) s

/-- R609: the vectors of `fmsub.s fd, fs1, fs2, fs3`. -/
def vecRvFmsubS (rm : BitVec 3) : Vectors :=
  roundedVectors rm fun m => { fs := { fpuOp := .fMsub, round := m, fpuRegWrite := true } }
/-- R609: `fmsub.s fd, fs1, fs2, fs3`: `f[rd] <- (f[rs1] * f[rs2]) - f[rs3], one rounding in mode rm, upper 32 bits zero; pc <- pc + 4`. -/
def execRvFmsubS (fs3 fs2 fs1 : RegIx) (rm : BitVec 3) (fd : RegIx) (s : State) : Host.Outcome State Fault Refusal :=
  runInstr (.rvFmsubS fs3 fs2 fs1 rm fd) (vecRvFmsubS rm) s

/-- R610: the vectors of `fmsub.d fd, fs1, fs2, fs3`. -/
def vecRvFmsubD (rm : BitVec 3) : Vectors :=
  roundedVectors rm fun m => { fs := { fpuOp := .fMsub, width := .double, round := m, fpuRegWrite := true } }
/-- R610: `fmsub.d fd, fs1, fs2, fs3`: `f[rd] <- (f[rs1] * f[rs2]) - f[rs3], one rounding in mode rm; pc <- pc + 4`. -/
def execRvFmsubD (fs3 fs2 fs1 : RegIx) (rm : BitVec 3) (fd : RegIx) (s : State) : Host.Outcome State Fault Refusal :=
  runInstr (.rvFmsubD fs3 fs2 fs1 rm fd) (vecRvFmsubD rm) s

/-- R611: the vectors of `fnmsub.s fd, fs1, fs2, fs3`. -/
def vecRvFnmsubS (rm : BitVec 3) : Vectors :=
  roundedVectors rm fun m => { fs := { fpuOp := .fNmsub, round := m, fpuRegWrite := true } }
/-- R611: `fnmsub.s fd, fs1, fs2, fs3`: `f[rd] <- -(f[rs1] * f[rs2]) + f[rs3], one rounding in mode rm, upper 32 bits zero; pc <- pc + 4`. -/
def execRvFnmsubS (fs3 fs2 fs1 : RegIx) (rm : BitVec 3) (fd : RegIx) (s : State) : Host.Outcome State Fault Refusal :=
  runInstr (.rvFnmsubS fs3 fs2 fs1 rm fd) (vecRvFnmsubS rm) s

/-- R612: the vectors of `fnmsub.d fd, fs1, fs2, fs3`. -/
def vecRvFnmsubD (rm : BitVec 3) : Vectors :=
  roundedVectors rm fun m => { fs := { fpuOp := .fNmsub, width := .double, round := m, fpuRegWrite := true } }
/-- R612: `fnmsub.d fd, fs1, fs2, fs3`: `f[rd] <- -(f[rs1] * f[rs2]) + f[rs3], one rounding in mode rm; pc <- pc + 4`. -/
def execRvFnmsubD (fs3 fs2 fs1 : RegIx) (rm : BitVec 3) (fd : RegIx) (s : State) : Host.Outcome State Fault Refusal :=
  runInstr (.rvFnmsubD fs3 fs2 fs1 rm fd) (vecRvFnmsubD rm) s

/-- R613: the vectors of `fnmadd.s fd, fs1, fs2, fs3`. -/
def vecRvFnmaddS (rm : BitVec 3) : Vectors :=
  roundedVectors rm fun m => { fs := { fpuOp := .fNmadd, round := m, fpuRegWrite := true } }
/-- R613: `fnmadd.s fd, fs1, fs2, fs3`: `f[rd] <- -(f[rs1] * f[rs2]) - f[rs3], one rounding in mode rm, upper 32 bits zero; pc <- pc + 4`. -/
def execRvFnmaddS (fs3 fs2 fs1 : RegIx) (rm : BitVec 3) (fd : RegIx) (s : State) : Host.Outcome State Fault Refusal :=
  runInstr (.rvFnmaddS fs3 fs2 fs1 rm fd) (vecRvFnmaddS rm) s

/-- R614: the vectors of `fnmadd.d fd, fs1, fs2, fs3`. -/
def vecRvFnmaddD (rm : BitVec 3) : Vectors :=
  roundedVectors rm fun m => { fs := { fpuOp := .fNmadd, width := .double, round := m, fpuRegWrite := true } }
/-- R614: `fnmadd.d fd, fs1, fs2, fs3`: `f[rd] <- -(f[rs1] * f[rs2]) - f[rs3], one rounding in mode rm; pc <- pc + 4`. -/
def execRvFnmaddD (fs3 fs2 fs1 : RegIx) (rm : BitVec 3) (fd : RegIx) (s : State) : Host.Outcome State Fault Refusal :=
  runInstr (.rvFnmaddD fs3 fs2 fs1 rm fd) (vecRvFnmaddD rm) s

end Sys2Proof.Machine
end

