-- ==== Sys2Proof/Machine/RvInteger.lean ====
section
/-! DEFINITION. The meanings of the integer computational instructions of `RV64L` (spec/44_rv_integer.md R451 to R493): each
instruction's two control vectors and its run through the four stages (spec/00_scope.md R20). A docstring quotes the net effect
its rule gives. -/

namespace Sys2Proof.Machine

/-- R451: the vectors of `lui rd, imm20`. -/
def vecRvLui : Vectors := { cs := { immForm := .upper, wbSrc := .imm, regWrite := true } }
/-- R451: `lui rd, imm20`: `x[rd] <- sext_64({w[31:12], 0x000}); pc <- pc + 4`. -/
def execRvLui (imm20 : BitVec 20) (rd : RegIx) (s : State) : Host.Outcome State Fault Refusal :=
  runInstr (.rvLui imm20 rd) vecRvLui s

/-- R452: the vectors of `auipc rd, imm20`. -/
def vecRvAuipc : Vectors := { cs := { op1Src := .pc, op2Src := .imm, immForm := .upper, aluOp := .add64, regWrite := true } }
/-- R452: `auipc rd, imm20`: `x[rd] <- (pc + sext_64({w[31:12], 0x000})) mod 2^64; pc <- pc + 4`. -/
def execRvAuipc (imm20 : BitVec 20) (rd : RegIx) (s : State) : Host.Outcome State Fault Refusal :=
  runInstr (.rvAuipc imm20 rd) vecRvAuipc s

/-- R453: the vectors of `addi rd, rs1, imm`. -/
def vecRvAddi : Vectors := { cs := { op2Src := .imm, aluOp := .add64, regWrite := true } }
/-- R453: `addi rd, rs1, imm`: `x[rd] <- (x[rs1] + imm) mod 2^64; pc <- pc + 4`. -/
def execRvAddi (imm12 : BitVec 12) (rs1 rd : RegIx) (s : State) : Host.Outcome State Fault Refusal :=
  runInstr (.rvAddi imm12 rs1 rd) vecRvAddi s

/-- R454: the vectors of `slti rd, rs1, imm`. -/
def vecRvSlti : Vectors := { cs := { op2Src := .imm, aluOp := .slt, regWrite := true } }
/-- R454: `slti rd, rs1, imm`: `x[rd] <- 1 if s_64(x[rs1]) < s_64(imm) else 0; pc <- pc + 4`. -/
def execRvSlti (imm12 : BitVec 12) (rs1 rd : RegIx) (s : State) : Host.Outcome State Fault Refusal :=
  runInstr (.rvSlti imm12 rs1 rd) vecRvSlti s

/-- R455: the vectors of `sltiu rd, rs1, imm`. -/
def vecRvSltiu : Vectors := { cs := { op2Src := .imm, aluOp := .sltu, regWrite := true } }
/-- R455: `sltiu rd, rs1, imm`: `x[rd] <- 1 if u(x[rs1]) < u(imm) else 0; pc <- pc + 4`. -/
def execRvSltiu (imm12 : BitVec 12) (rs1 rd : RegIx) (s : State) : Host.Outcome State Fault Refusal :=
  runInstr (.rvSltiu imm12 rs1 rd) vecRvSltiu s

/-- R456: the vectors of `xori rd, rs1, imm`. -/
def vecRvXori : Vectors := { cs := { op2Src := .imm, aluOp := .xor, regWrite := true } }
/-- R456: `xori rd, rs1, imm`: `x[rd] <- x[rs1] ^ imm; pc <- pc + 4`. -/
def execRvXori (imm12 : BitVec 12) (rs1 rd : RegIx) (s : State) : Host.Outcome State Fault Refusal :=
  runInstr (.rvXori imm12 rs1 rd) vecRvXori s

/-- R457: the vectors of `ori rd, rs1, imm`. -/
def vecRvOri : Vectors := { cs := { op2Src := .imm, aluOp := .or, regWrite := true } }
/-- R457: `ori rd, rs1, imm`: `x[rd] <- x[rs1] | imm; pc <- pc + 4`. -/
def execRvOri (imm12 : BitVec 12) (rs1 rd : RegIx) (s : State) : Host.Outcome State Fault Refusal :=
  runInstr (.rvOri imm12 rs1 rd) vecRvOri s

/-- R458: the vectors of `andi rd, rs1, imm`. -/
def vecRvAndi : Vectors := { cs := { op2Src := .imm, aluOp := .and, regWrite := true } }
/-- R458: `andi rd, rs1, imm`: `x[rd] <- x[rs1] & imm; pc <- pc + 4`. -/
def execRvAndi (imm12 : BitVec 12) (rs1 rd : RegIx) (s : State) : Host.Outcome State Fault Refusal :=
  runInstr (.rvAndi imm12 rs1 rd) vecRvAndi s

/-- R459: the vectors of `slli rd, rs1, shamt`. -/
def vecRvSlli (shamt : BitVec 6) : Vectors := { cs := { op2Src := .imm, aluOp := .sll64 shamt, regWrite := true } }
/-- R459: `slli rd, rs1, shamt`: `x[rd] <- (x[rs1] << shamt) mod 2^64; pc <- pc + 4`. -/
def execRvSlli (shamt : BitVec 6) (rs1 rd : RegIx) (s : State) : Host.Outcome State Fault Refusal :=
  runInstr (.rvSlli shamt rs1 rd) (vecRvSlli shamt) s

/-- R460: the vectors of `srli rd, rs1, shamt`. -/
def vecRvSrli (shamt : BitVec 6) : Vectors := { cs := { op2Src := .imm, aluOp := .srl64 shamt, regWrite := true } }
/-- R460: `srli rd, rs1, shamt`: `x[rd] <- u(x[rs1]) >> shamt; pc <- pc + 4`. -/
def execRvSrli (shamt : BitVec 6) (rs1 rd : RegIx) (s : State) : Host.Outcome State Fault Refusal :=
  runInstr (.rvSrli shamt rs1 rd) (vecRvSrli shamt) s

/-- R461: the vectors of `srai rd, rs1, shamt`. -/
def vecRvSrai (shamt : BitVec 6) : Vectors := { cs := { op2Src := .imm, aluOp := .sra64 shamt, regWrite := true } }
/-- R461: `srai rd, rs1, shamt`: `x[rd] <- s_64(x[rs1]) >> shamt; pc <- pc + 4`. -/
def execRvSrai (shamt : BitVec 6) (rs1 rd : RegIx) (s : State) : Host.Outcome State Fault Refusal :=
  runInstr (.rvSrai shamt rs1 rd) (vecRvSrai shamt) s

/-- R462: the vectors of `addiw rd, rs1, imm`. -/
def vecRvAddiw : Vectors := { cs := { op2Src := .imm, aluOp := .add32, regWrite := true } }
/-- R462: `addiw rd, rs1, imm`: `x[rd] <- sext32((x[rs1][31:0] + imm[31:0]) mod 2^32); pc <- pc + 4`. -/
def execRvAddiw (imm12 : BitVec 12) (rs1 rd : RegIx) (s : State) : Host.Outcome State Fault Refusal :=
  runInstr (.rvAddiw imm12 rs1 rd) vecRvAddiw s

/-- R463: the vectors of `slliw rd, rs1, shamt`. -/
def vecRvSlliw (shamt : BitVec 5) : Vectors := { cs := { op2Src := .imm, aluOp := .sll32 shamt, regWrite := true } }
/-- R463: `slliw rd, rs1, shamt`: `x[rd] <- sext32((x[rs1][31:0] << shamt) mod 2^32); pc <- pc + 4`. -/
def execRvSlliw (shamt : BitVec 5) (rs1 rd : RegIx) (s : State) : Host.Outcome State Fault Refusal :=
  runInstr (.rvSlliw shamt rs1 rd) (vecRvSlliw shamt) s

/-- R464: the vectors of `srliw rd, rs1, shamt`. -/
def vecRvSrliw (shamt : BitVec 5) : Vectors := { cs := { op2Src := .imm, aluOp := .srl32 shamt, regWrite := true } }
/-- R464: `srliw rd, rs1, shamt`: `x[rd] <- sext32(u(x[rs1][31:0]) >> shamt); pc <- pc + 4`. -/
def execRvSrliw (shamt : BitVec 5) (rs1 rd : RegIx) (s : State) : Host.Outcome State Fault Refusal :=
  runInstr (.rvSrliw shamt rs1 rd) (vecRvSrliw shamt) s

/-- R465: the vectors of `sraiw rd, rs1, shamt`. -/
def vecRvSraiw (shamt : BitVec 5) : Vectors := { cs := { op2Src := .imm, aluOp := .sra32 shamt, regWrite := true } }
/-- R465: `sraiw rd, rs1, shamt`: `x[rd] <- sext32(s_32(x[rs1][31:0]) >> shamt); pc <- pc + 4`. -/
def execRvSraiw (shamt : BitVec 5) (rs1 rd : RegIx) (s : State) : Host.Outcome State Fault Refusal :=
  runInstr (.rvSraiw shamt rs1 rd) (vecRvSraiw shamt) s

/-- R466: the vectors of `add rd, rs1, rs2`. -/
def vecRvAdd : Vectors := { cs := { aluOp := .add64, regWrite := true } }
/-- R466: `add rd, rs1, rs2`: `x[rd] <- (x[rs1] + x[rs2]) mod 2^64; pc <- pc + 4`. -/
def execRvAdd (rs2 rs1 rd : RegIx) (s : State) : Host.Outcome State Fault Refusal :=
  runInstr (.rvAdd rs2 rs1 rd) vecRvAdd s

/-- R467: the vectors of `sub rd, rs1, rs2`. -/
def vecRvSub : Vectors := { cs := { aluOp := .sub64, regWrite := true } }
/-- R467: `sub rd, rs1, rs2`: `x[rd] <- (x[rs1] - x[rs2]) mod 2^64; pc <- pc + 4`. -/
def execRvSub (rs2 rs1 rd : RegIx) (s : State) : Host.Outcome State Fault Refusal :=
  runInstr (.rvSub rs2 rs1 rd) vecRvSub s

/-- R468: the vectors of `sll rd, rs1, rs2`. -/
def vecRvSll : Vectors := { cs := { aluOp := .sllV64, regWrite := true } }
/-- R468: `sll rd, rs1, rs2`: `x[rd] <- (x[rs1] << x[rs2][5:0]) mod 2^64; pc <- pc + 4`. -/
def execRvSll (rs2 rs1 rd : RegIx) (s : State) : Host.Outcome State Fault Refusal :=
  runInstr (.rvSll rs2 rs1 rd) vecRvSll s

/-- R469: the vectors of `slt rd, rs1, rs2`. -/
def vecRvSlt : Vectors := { cs := { aluOp := .slt, regWrite := true } }
/-- R469: `slt rd, rs1, rs2`: `x[rd] <- 1 if s_64(x[rs1]) < s_64(x[rs2]) else 0; pc <- pc + 4`. -/
def execRvSlt (rs2 rs1 rd : RegIx) (s : State) : Host.Outcome State Fault Refusal :=
  runInstr (.rvSlt rs2 rs1 rd) vecRvSlt s

/-- R470: the vectors of `sltu rd, rs1, rs2`. -/
def vecRvSltu : Vectors := { cs := { aluOp := .sltu, regWrite := true } }
/-- R470: `sltu rd, rs1, rs2`: `x[rd] <- 1 if u(x[rs1]) < u(x[rs2]) else 0; pc <- pc + 4`. -/
def execRvSltu (rs2 rs1 rd : RegIx) (s : State) : Host.Outcome State Fault Refusal :=
  runInstr (.rvSltu rs2 rs1 rd) vecRvSltu s

/-- R471: the vectors of `xor rd, rs1, rs2`. -/
def vecRvXor : Vectors := { cs := { aluOp := .xor, regWrite := true } }
/-- R471: `xor rd, rs1, rs2`: `x[rd] <- x[rs1] ^ x[rs2]; pc <- pc + 4`. -/
def execRvXor (rs2 rs1 rd : RegIx) (s : State) : Host.Outcome State Fault Refusal :=
  runInstr (.rvXor rs2 rs1 rd) vecRvXor s

/-- R472: the vectors of `srl rd, rs1, rs2`. -/
def vecRvSrl : Vectors := { cs := { aluOp := .srlV64, regWrite := true } }
/-- R472: `srl rd, rs1, rs2`: `x[rd] <- u(x[rs1]) >> x[rs2][5:0]; pc <- pc + 4`. -/
def execRvSrl (rs2 rs1 rd : RegIx) (s : State) : Host.Outcome State Fault Refusal :=
  runInstr (.rvSrl rs2 rs1 rd) vecRvSrl s

/-- R473: the vectors of `sra rd, rs1, rs2`. -/
def vecRvSra : Vectors := { cs := { aluOp := .sraV64, regWrite := true } }
/-- R473: `sra rd, rs1, rs2`: `x[rd] <- s_64(x[rs1]) >> x[rs2][5:0]; pc <- pc + 4`. -/
def execRvSra (rs2 rs1 rd : RegIx) (s : State) : Host.Outcome State Fault Refusal :=
  runInstr (.rvSra rs2 rs1 rd) vecRvSra s

/-- R474: the vectors of `or rd, rs1, rs2`. -/
def vecRvOr : Vectors := { cs := { aluOp := .or, regWrite := true } }
/-- R474: `or rd, rs1, rs2`: `x[rd] <- x[rs1] | x[rs2]; pc <- pc + 4`. -/
def execRvOr (rs2 rs1 rd : RegIx) (s : State) : Host.Outcome State Fault Refusal :=
  runInstr (.rvOr rs2 rs1 rd) vecRvOr s

/-- R475: the vectors of `and rd, rs1, rs2`. -/
def vecRvAnd : Vectors := { cs := { aluOp := .and, regWrite := true } }
/-- R475: `and rd, rs1, rs2`: `x[rd] <- x[rs1] & x[rs2]; pc <- pc + 4`. -/
def execRvAnd (rs2 rs1 rd : RegIx) (s : State) : Host.Outcome State Fault Refusal :=
  runInstr (.rvAnd rs2 rs1 rd) vecRvAnd s

/-- R476: the vectors of `addw rd, rs1, rs2`. -/
def vecRvAddw : Vectors := { cs := { aluOp := .add32, regWrite := true } }
/-- R476: `addw rd, rs1, rs2`: `x[rd] <- sext32((x[rs1][31:0] + x[rs2][31:0]) mod 2^32); pc <- pc + 4`. -/
def execRvAddw (rs2 rs1 rd : RegIx) (s : State) : Host.Outcome State Fault Refusal :=
  runInstr (.rvAddw rs2 rs1 rd) vecRvAddw s

/-- R477: the vectors of `subw rd, rs1, rs2`. -/
def vecRvSubw : Vectors := { cs := { aluOp := .sub32, regWrite := true } }
/-- R477: `subw rd, rs1, rs2`: `x[rd] <- sext32((x[rs1][31:0] - x[rs2][31:0]) mod 2^32); pc <- pc + 4`. -/
def execRvSubw (rs2 rs1 rd : RegIx) (s : State) : Host.Outcome State Fault Refusal :=
  runInstr (.rvSubw rs2 rs1 rd) vecRvSubw s

/-- R478: the vectors of `sllw rd, rs1, rs2`. -/
def vecRvSllw : Vectors := { cs := { aluOp := .sllV32, regWrite := true } }
/-- R478: `sllw rd, rs1, rs2`: `x[rd] <- sext32((x[rs1][31:0] << x[rs2][4:0]) mod 2^32); pc <- pc + 4`. -/
def execRvSllw (rs2 rs1 rd : RegIx) (s : State) : Host.Outcome State Fault Refusal :=
  runInstr (.rvSllw rs2 rs1 rd) vecRvSllw s

/-- R479: the vectors of `srlw rd, rs1, rs2`. -/
def vecRvSrlw : Vectors := { cs := { aluOp := .srlV32, regWrite := true } }
/-- R479: `srlw rd, rs1, rs2`: `x[rd] <- sext32(u(x[rs1][31:0]) >> x[rs2][4:0]); pc <- pc + 4`. -/
def execRvSrlw (rs2 rs1 rd : RegIx) (s : State) : Host.Outcome State Fault Refusal :=
  runInstr (.rvSrlw rs2 rs1 rd) vecRvSrlw s

/-- R480: the vectors of `sraw rd, rs1, rs2`. -/
def vecRvSraw : Vectors := { cs := { aluOp := .sraV32, regWrite := true } }
/-- R480: `sraw rd, rs1, rs2`: `x[rd] <- sext32(s_32(x[rs1][31:0]) >> x[rs2][4:0]); pc <- pc + 4`. -/
def execRvSraw (rs2 rs1 rd : RegIx) (s : State) : Host.Outcome State Fault Refusal :=
  runInstr (.rvSraw rs2 rs1 rd) vecRvSraw s

/-- R481: the vectors of `mul rd, rs1, rs2`. -/
def vecRvMul : Vectors := { cs := { aluOp := .mul64, regWrite := true } }
/-- R481: `mul rd, rs1, rs2`: `x[rd] <- (x[rs1] * x[rs2]) mod 2^64; pc <- pc + 4`. -/
def execRvMul (rs2 rs1 rd : RegIx) (s : State) : Host.Outcome State Fault Refusal :=
  runInstr (.rvMul rs2 rs1 rd) vecRvMul s

/-- R482: the vectors of `mulh rd, rs1, rs2`. -/
def vecRvMulh : Vectors := { cs := { aluOp := .mulh64, regWrite := true } }
/-- R482: `mulh rd, rs1, rs2`: `x[rd] <- (s_64(x[rs1]) * s_64(x[rs2]))[127:64]; pc <- pc + 4`. -/
def execRvMulh (rs2 rs1 rd : RegIx) (s : State) : Host.Outcome State Fault Refusal :=
  runInstr (.rvMulh rs2 rs1 rd) vecRvMulh s

/-- R483: the vectors of `mulhsu rd, rs1, rs2`. -/
def vecRvMulhsu : Vectors := { cs := { aluOp := .mulhsu64, regWrite := true } }
/-- R483: `mulhsu rd, rs1, rs2`: `x[rd] <- (s_64(x[rs1]) * u(x[rs2]))[127:64]; pc <- pc + 4`. -/
def execRvMulhsu (rs2 rs1 rd : RegIx) (s : State) : Host.Outcome State Fault Refusal :=
  runInstr (.rvMulhsu rs2 rs1 rd) vecRvMulhsu s

/-- R484: the vectors of `mulhu rd, rs1, rs2`. -/
def vecRvMulhu : Vectors := { cs := { aluOp := .mulhu64, regWrite := true } }
/-- R484: `mulhu rd, rs1, rs2`: `x[rd] <- (u(x[rs1]) * u(x[rs2]))[127:64]; pc <- pc + 4`. -/
def execRvMulhu (rs2 rs1 rd : RegIx) (s : State) : Host.Outcome State Fault Refusal :=
  runInstr (.rvMulhu rs2 rs1 rd) vecRvMulhu s

/-- R485: the vectors of `div rd, rs1, rs2`. -/
def vecRvDiv : Vectors := { cs := { aluOp := .div64, regWrite := true } }
/-- R485: `div rd, rs1, rs2`: `x[rd] <- Div64(x[rs1], x[rs2]); pc <- pc + 4`. -/
def execRvDiv (rs2 rs1 rd : RegIx) (s : State) : Host.Outcome State Fault Refusal :=
  runInstr (.rvDiv rs2 rs1 rd) vecRvDiv s

/-- R486: the vectors of `divu rd, rs1, rs2`. -/
def vecRvDivu : Vectors := { cs := { aluOp := .divu64, regWrite := true } }
/-- R486: `divu rd, rs1, rs2`: `x[rd] <- Divu64(x[rs1], x[rs2]); pc <- pc + 4`. -/
def execRvDivu (rs2 rs1 rd : RegIx) (s : State) : Host.Outcome State Fault Refusal :=
  runInstr (.rvDivu rs2 rs1 rd) vecRvDivu s

/-- R487: the vectors of `rem rd, rs1, rs2`. -/
def vecRvRem : Vectors := { cs := { aluOp := .rem64, regWrite := true } }
/-- R487: `rem rd, rs1, rs2`: `x[rd] <- Rem64(x[rs1], x[rs2]); pc <- pc + 4`. -/
def execRvRem (rs2 rs1 rd : RegIx) (s : State) : Host.Outcome State Fault Refusal :=
  runInstr (.rvRem rs2 rs1 rd) vecRvRem s

/-- R488: the vectors of `remu rd, rs1, rs2`. -/
def vecRvRemu : Vectors := { cs := { aluOp := .remu64, regWrite := true } }
/-- R488: `remu rd, rs1, rs2`: `x[rd] <- Remu64(x[rs1], x[rs2]); pc <- pc + 4`. -/
def execRvRemu (rs2 rs1 rd : RegIx) (s : State) : Host.Outcome State Fault Refusal :=
  runInstr (.rvRemu rs2 rs1 rd) vecRvRemu s

/-- R489: the vectors of `mulw rd, rs1, rs2`. -/
def vecRvMulw : Vectors := { cs := { aluOp := .mul32, regWrite := true } }
/-- R489: `mulw rd, rs1, rs2`: `x[rd] <- sext32((x[rs1][31:0] * x[rs2][31:0]) mod 2^32); pc <- pc + 4`. -/
def execRvMulw (rs2 rs1 rd : RegIx) (s : State) : Host.Outcome State Fault Refusal :=
  runInstr (.rvMulw rs2 rs1 rd) vecRvMulw s

/-- R490: the vectors of `divw rd, rs1, rs2`. -/
def vecRvDivw : Vectors := { cs := { aluOp := .div32, regWrite := true } }
/-- R490: `divw rd, rs1, rs2`: `x[rd] <- Div32(x[rs1], x[rs2]); pc <- pc + 4`. -/
def execRvDivw (rs2 rs1 rd : RegIx) (s : State) : Host.Outcome State Fault Refusal :=
  runInstr (.rvDivw rs2 rs1 rd) vecRvDivw s

/-- R491: the vectors of `divuw rd, rs1, rs2`. -/
def vecRvDivuw : Vectors := { cs := { aluOp := .divu32, regWrite := true } }
/-- R491: `divuw rd, rs1, rs2`: `x[rd] <- Divu32(x[rs1], x[rs2]); pc <- pc + 4`. -/
def execRvDivuw (rs2 rs1 rd : RegIx) (s : State) : Host.Outcome State Fault Refusal :=
  runInstr (.rvDivuw rs2 rs1 rd) vecRvDivuw s

/-- R492: the vectors of `remw rd, rs1, rs2`. -/
def vecRvRemw : Vectors := { cs := { aluOp := .rem32, regWrite := true } }
/-- R492: `remw rd, rs1, rs2`: `x[rd] <- Rem32(x[rs1], x[rs2]); pc <- pc + 4`. -/
def execRvRemw (rs2 rs1 rd : RegIx) (s : State) : Host.Outcome State Fault Refusal :=
  runInstr (.rvRemw rs2 rs1 rd) vecRvRemw s

/-- R493: the vectors of `remuw rd, rs1, rs2`. -/
def vecRvRemuw : Vectors := { cs := { aluOp := .remu32, regWrite := true } }
/-- R493: `remuw rd, rs1, rs2`: `x[rd] <- Remu32(x[rs1], x[rs2]); pc <- pc + 4`. -/
def execRvRemuw (rs2 rs1 rd : RegIx) (s : State) : Host.Outcome State Fault Refusal :=
  runInstr (.rvRemuw rs2 rs1 rd) vecRvRemuw s

end Sys2Proof.Machine
end

