-- ==== Sys2Proof/Machine/RvMemControl.lean ====
section
/-! DEFINITION. The meanings of the loads, stores, branches, jumps and the environment call of `RV64L` (spec/45_rv_memory_control.md R531 to R550): each
instruction's two control vectors and its run through the four stages (spec/00_scope.md R20). A docstring quotes the net effect
its rule gives. -/

namespace Sys2Proof.Machine

/-- R531: the vectors of `lb rd, imm(rs1)`. -/
def vecRvLb : Vectors := { cs := { op2Src := .imm, aluOp := .add64, memRead := .b, wbSrc := .mem, regWrite := true } }
/-- R531: `lb rd, imm(rs1)`: `a = (x[rs1] + sext_64(w[31:20])) mod 2^64; x[rd] <- sext_64(MemRead(a, 1)); pc <- pc + 4`. -/
def execRvLb (imm12 : BitVec 12) (rs1 rd : RegIx) (s : State) : Host.Outcome State Fault Refusal :=
  runInstr (.rvLb imm12 rs1 rd) vecRvLb s

/-- R532: the vectors of `lh rd, imm(rs1)`. -/
def vecRvLh : Vectors := { cs := { op2Src := .imm, aluOp := .add64, memRead := .h, wbSrc := .mem, regWrite := true } }
/-- R532: `lh rd, imm(rs1)`: `a = (x[rs1] + sext_64(w[31:20])) mod 2^64; x[rd] <- sext_64(MemRead(a, 2)); pc <- pc + 4`. -/
def execRvLh (imm12 : BitVec 12) (rs1 rd : RegIx) (s : State) : Host.Outcome State Fault Refusal :=
  runInstr (.rvLh imm12 rs1 rd) vecRvLh s

/-- R533: the vectors of `lw rd, imm(rs1)`. -/
def vecRvLw : Vectors := { cs := { op2Src := .imm, aluOp := .add64, memRead := .w, wbSrc := .mem, regWrite := true } }
/-- R533: `lw rd, imm(rs1)`: `a = (x[rs1] + sext_64(w[31:20])) mod 2^64; x[rd] <- sext_64(MemRead(a, 4)); pc <- pc + 4`. -/
def execRvLw (imm12 : BitVec 12) (rs1 rd : RegIx) (s : State) : Host.Outcome State Fault Refusal :=
  runInstr (.rvLw imm12 rs1 rd) vecRvLw s

/-- R534: the vectors of `ld rd, imm(rs1)`. -/
def vecRvLd : Vectors := { cs := { op2Src := .imm, aluOp := .add64, memRead := .d, wbSrc := .mem, regWrite := true } }
/-- R534: `ld rd, imm(rs1)`: `a = (x[rs1] + sext_64(w[31:20])) mod 2^64; x[rd] <- MemRead(a, 8); pc <- pc + 4`. -/
def execRvLd (imm12 : BitVec 12) (rs1 rd : RegIx) (s : State) : Host.Outcome State Fault Refusal :=
  runInstr (.rvLd imm12 rs1 rd) vecRvLd s

/-- R535: the vectors of `lbu rd, imm(rs1)`. -/
def vecRvLbu : Vectors := { cs := { op2Src := .imm, aluOp := .add64, memRead := .bu, wbSrc := .mem, regWrite := true } }
/-- R535: `lbu rd, imm(rs1)`: `a = (x[rs1] + sext_64(w[31:20])) mod 2^64; x[rd] <- zext_64(MemRead(a, 1)); pc <- pc + 4`. -/
def execRvLbu (imm12 : BitVec 12) (rs1 rd : RegIx) (s : State) : Host.Outcome State Fault Refusal :=
  runInstr (.rvLbu imm12 rs1 rd) vecRvLbu s

/-- R536: the vectors of `lhu rd, imm(rs1)`. -/
def vecRvLhu : Vectors := { cs := { op2Src := .imm, aluOp := .add64, memRead := .hu, wbSrc := .mem, regWrite := true } }
/-- R536: `lhu rd, imm(rs1)`: `a = (x[rs1] + sext_64(w[31:20])) mod 2^64; x[rd] <- zext_64(MemRead(a, 2)); pc <- pc + 4`. -/
def execRvLhu (imm12 : BitVec 12) (rs1 rd : RegIx) (s : State) : Host.Outcome State Fault Refusal :=
  runInstr (.rvLhu imm12 rs1 rd) vecRvLhu s

/-- R537: the vectors of `lwu rd, imm(rs1)`. -/
def vecRvLwu : Vectors := { cs := { op2Src := .imm, aluOp := .add64, memRead := .wu, wbSrc := .mem, regWrite := true } }
/-- R537: `lwu rd, imm(rs1)`: `a = (x[rs1] + sext_64(w[31:20])) mod 2^64; x[rd] <- zext_64(MemRead(a, 4)); pc <- pc + 4`. -/
def execRvLwu (imm12 : BitVec 12) (rs1 rd : RegIx) (s : State) : Host.Outcome State Fault Refusal :=
  runInstr (.rvLwu imm12 rs1 rd) vecRvLwu s

/-- R538: the vectors of `sb rs2, imm(rs1)`. -/
def vecRvSb : Vectors := { cs := { op2Src := .imm, immForm := .s, aluOp := .add64, memWrite := .b } }
/-- R538: `sb rs2, imm(rs1)`: `a = (x[rs1] + sext_64({w[31:25], w[11:7]})) mod 2^64; MemWrite(a, 1, x[rs2]); pc <- pc + 4`. -/
def execRvSb (imm7 : BitVec 7) (rs2 rs1 : RegIx) (imm5 : BitVec 5) (s : State) : Host.Outcome State Fault Refusal :=
  runInstr (.rvSb imm7 rs2 rs1 imm5) vecRvSb s

/-- R539: the vectors of `sh rs2, imm(rs1)`. -/
def vecRvSh : Vectors := { cs := { op2Src := .imm, immForm := .s, aluOp := .add64, memWrite := .h } }
/-- R539: `sh rs2, imm(rs1)`: `a = (x[rs1] + sext_64({w[31:25], w[11:7]})) mod 2^64; MemWrite(a, 2, x[rs2]); pc <- pc + 4`. -/
def execRvSh (imm7 : BitVec 7) (rs2 rs1 : RegIx) (imm5 : BitVec 5) (s : State) : Host.Outcome State Fault Refusal :=
  runInstr (.rvSh imm7 rs2 rs1 imm5) vecRvSh s

/-- R540: the vectors of `sw rs2, imm(rs1)`. -/
def vecRvSw : Vectors := { cs := { op2Src := .imm, immForm := .s, aluOp := .add64, memWrite := .w } }
/-- R540: `sw rs2, imm(rs1)`: `a = (x[rs1] + sext_64({w[31:25], w[11:7]})) mod 2^64; MemWrite(a, 4, x[rs2]); pc <- pc + 4`. -/
def execRvSw (imm7 : BitVec 7) (rs2 rs1 : RegIx) (imm5 : BitVec 5) (s : State) : Host.Outcome State Fault Refusal :=
  runInstr (.rvSw imm7 rs2 rs1 imm5) vecRvSw s

/-- R541: the vectors of `sd rs2, imm(rs1)`. -/
def vecRvSd : Vectors := { cs := { op2Src := .imm, immForm := .s, aluOp := .add64, memWrite := .d } }
/-- R541: `sd rs2, imm(rs1)`: `a = (x[rs1] + sext_64({w[31:25], w[11:7]})) mod 2^64; MemWrite(a, 8, x[rs2]); pc <- pc + 4`. -/
def execRvSd (imm7 : BitVec 7) (rs2 rs1 : RegIx) (imm5 : BitVec 5) (s : State) : Host.Outcome State Fault Refusal :=
  runInstr (.rvSd imm7 rs2 rs1 imm5) vecRvSd s

/-- R542: the vectors of `beq rs1, rs2, offset`. -/
def vecRvBeq : Vectors := { cs := { immForm := .b, aluOp := .sub64, branch := .beq } }
/-- R542: `beq rs1, rs2, offset`: `target = (pc + sext_64({w[31], w[7], w[30:25], w[11:8], 0b0})) mod 2^64; pc <- target if x[rs1] = x[rs2] else pc + 4`. -/
def execRvBeq (imm7 : BitVec 7) (rs2 rs1 : RegIx) (imm5 : BitVec 5) (s : State) : Host.Outcome State Fault Refusal :=
  runInstr (.rvBeq imm7 rs2 rs1 imm5) vecRvBeq s

/-- R543: the vectors of `bne rs1, rs2, offset`. -/
def vecRvBne : Vectors := { cs := { immForm := .b, aluOp := .sub64, branch := .bne } }
/-- R543: `bne rs1, rs2, offset`: `target = (pc + sext_64({w[31], w[7], w[30:25], w[11:8], 0b0})) mod 2^64; pc <- target if x[rs1] != x[rs2] else pc + 4`. -/
def execRvBne (imm7 : BitVec 7) (rs2 rs1 : RegIx) (imm5 : BitVec 5) (s : State) : Host.Outcome State Fault Refusal :=
  runInstr (.rvBne imm7 rs2 rs1 imm5) vecRvBne s

/-- R544: the vectors of `blt rs1, rs2, offset`. -/
def vecRvBlt : Vectors := { cs := { immForm := .b, aluOp := .slt, branch := .blt } }
/-- R544: `blt rs1, rs2, offset`: `target = (pc + sext_64({w[31], w[7], w[30:25], w[11:8], 0b0})) mod 2^64; pc <- target if s_64(x[rs1]) < s_64(x[rs2]) else pc + 4`. -/
def execRvBlt (imm7 : BitVec 7) (rs2 rs1 : RegIx) (imm5 : BitVec 5) (s : State) : Host.Outcome State Fault Refusal :=
  runInstr (.rvBlt imm7 rs2 rs1 imm5) vecRvBlt s

/-- R545: the vectors of `bge rs1, rs2, offset`. -/
def vecRvBge : Vectors := { cs := { immForm := .b, aluOp := .slt, branch := .bge } }
/-- R545: `bge rs1, rs2, offset`: `target = (pc + sext_64({w[31], w[7], w[30:25], w[11:8], 0b0})) mod 2^64; pc <- target if s_64(x[rs1]) >= s_64(x[rs2]) else pc + 4`. -/
def execRvBge (imm7 : BitVec 7) (rs2 rs1 : RegIx) (imm5 : BitVec 5) (s : State) : Host.Outcome State Fault Refusal :=
  runInstr (.rvBge imm7 rs2 rs1 imm5) vecRvBge s

/-- R546: the vectors of `bltu rs1, rs2, offset`. -/
def vecRvBltu : Vectors := { cs := { immForm := .b, aluOp := .sltu, branch := .bltu } }
/-- R546: `bltu rs1, rs2, offset`: `target = (pc + sext_64({w[31], w[7], w[30:25], w[11:8], 0b0})) mod 2^64; pc <- target if u(x[rs1]) < u(x[rs2]) else pc + 4`. -/
def execRvBltu (imm7 : BitVec 7) (rs2 rs1 : RegIx) (imm5 : BitVec 5) (s : State) : Host.Outcome State Fault Refusal :=
  runInstr (.rvBltu imm7 rs2 rs1 imm5) vecRvBltu s

/-- R547: the vectors of `bgeu rs1, rs2, offset`. -/
def vecRvBgeu : Vectors := { cs := { immForm := .b, aluOp := .sltu, branch := .bgeu } }
/-- R547: `bgeu rs1, rs2, offset`: `target = (pc + sext_64({w[31], w[7], w[30:25], w[11:8], 0b0})) mod 2^64; pc <- target if u(x[rs1]) >= u(x[rs2]) else pc + 4`. -/
def execRvBgeu (imm7 : BitVec 7) (rs2 rs1 : RegIx) (imm5 : BitVec 5) (s : State) : Host.Outcome State Fault Refusal :=
  runInstr (.rvBgeu imm7 rs2 rs1 imm5) vecRvBgeu s

/-- R548: the vectors of `jal rd, offset`. -/
def vecRvJal : Vectors :=
  { cs := { op1Src := .pc, op2Src := .imm, immForm := .j, aluOp := .add64, jump := .jAlu, wbSrc := .pcPlus4, regWrite := true } }
/-- R548: `jal rd, offset`: `x[rd] <- pc + 4; pc <- (pc + sext_64({w[31], w[19:12], w[20], w[30:21], 0b0})) mod 2^64`. -/
def execRvJal (imm20 : BitVec 20) (rd : RegIx) (s : State) : Host.Outcome State Fault Refusal :=
  runInstr (.rvJal imm20 rd) vecRvJal s

/-- R549: the vectors of `jalr rd, imm(rs1)`. -/
def vecRvJalr : Vectors := { cs := { op2Src := .imm, aluOp := .add64, jump := .jAluClr0, wbSrc := .pcPlus4, regWrite := true } }
/-- R549: `jalr rd, imm(rs1)`: `t = (x[rs1] + sext_64(w[31:20])) mod 2^64; x[rd] <- pc + 4; pc <- {t[63:1], 0b0}`. -/
def execRvJalr (imm12 : BitVec 12) (rs1 rd : RegIx) (s : State) : Host.Outcome State Fault Refusal :=
  runInstr (.rvJalr imm12 rs1 rd) vecRvJalr s

/-- R550: the vectors of `ecall`. -/
def vecRvEcall : Vectors := { cs := { halt := true } }
/-- R550: `ecall`: `pc <- pc + 4; run <- Halted`. -/
def execRvEcall (rs1 rd : RegIx) (s : State) : Host.Outcome State Fault Refusal :=
  runInstr (.rvEcall rs1 rd) vecRvEcall s

end Sys2Proof.Machine
end

