-- ==== Sys2Proof/Machine/Dispatch.lean ====
section
/-! DEFINITION. The dispatch: one arm per instruction, each one call of its meaning. -/

namespace Sys2Proof.Machine

def exec (i : Instr) (s : State) : Host.Outcome State Fault Refusal :=
  match i with
  | .mipsAdd rs rt rd shamt => Sys2Proof.Machine.execMipsAdd rs rt rd shamt s
  | .mipsAddu rs rt rd shamt => Sys2Proof.Machine.execMipsAddu rs rt rd shamt s
  | .mipsSub rs rt rd shamt => Sys2Proof.Machine.execMipsSub rs rt rd shamt s
  | .mipsSubu rs rt rd shamt => Sys2Proof.Machine.execMipsSubu rs rt rd shamt s
  | .mipsAnd rs rt rd shamt => Sys2Proof.Machine.execMipsAnd rs rt rd shamt s
  | .mipsOr rs rt rd shamt => Sys2Proof.Machine.execMipsOr rs rt rd shamt s
  | .mipsXor rs rt rd shamt => Sys2Proof.Machine.execMipsXor rs rt rd shamt s
  | .mipsNor rs rt rd shamt => Sys2Proof.Machine.execMipsNor rs rt rd shamt s
  | .mipsSlt rs rt rd shamt => Sys2Proof.Machine.execMipsSlt rs rt rd shamt s
  | .mipsSltu rs rt rd shamt => Sys2Proof.Machine.execMipsSltu rs rt rd shamt s
  | .mipsDadd rs rt rd shamt => Sys2Proof.Machine.execMipsDadd rs rt rd shamt s
  | .mipsDaddu rs rt rd shamt => Sys2Proof.Machine.execMipsDaddu rs rt rd shamt s
  | .mipsDsub rs rt rd shamt => Sys2Proof.Machine.execMipsDsub rs rt rd shamt s
  | .mipsDsubu rs rt rd shamt => Sys2Proof.Machine.execMipsDsubu rs rt rd shamt s
  | .mipsSll rs rt rd sa => Sys2Proof.Machine.execMipsSll rs rt rd sa s
  | .mipsSrl rs rt rd sa => Sys2Proof.Machine.execMipsSrl rs rt rd sa s
  | .mipsSra rs rt rd sa => Sys2Proof.Machine.execMipsSra rs rt rd sa s
  | .mipsDsll rs rt rd sa => Sys2Proof.Machine.execMipsDsll rs rt rd sa s
  | .mipsDsrl rs rt rd sa => Sys2Proof.Machine.execMipsDsrl rs rt rd sa s
  | .mipsDsra rs rt rd sa => Sys2Proof.Machine.execMipsDsra rs rt rd sa s
  | .mipsDsll32 rs rt rd sa => Sys2Proof.Machine.execMipsDsll32 rs rt rd sa s
  | .mipsDsrl32 rs rt rd sa => Sys2Proof.Machine.execMipsDsrl32 rs rt rd sa s
  | .mipsDsra32 rs rt rd sa => Sys2Proof.Machine.execMipsDsra32 rs rt rd sa s
  | .mipsMul rs rt rd => Sys2Proof.Machine.execMipsMul rs rt rd s
  | .mipsMuh rs rt rd => Sys2Proof.Machine.execMipsMuh rs rt rd s
  | .mipsMulu rs rt rd => Sys2Proof.Machine.execMipsMulu rs rt rd s
  | .mipsMuhu rs rt rd => Sys2Proof.Machine.execMipsMuhu rs rt rd s
  | .mipsDiv rs rt rd => Sys2Proof.Machine.execMipsDiv rs rt rd s
  | .mipsMod rs rt rd => Sys2Proof.Machine.execMipsMod rs rt rd s
  | .mipsDivu rs rt rd => Sys2Proof.Machine.execMipsDivu rs rt rd s
  | .mipsModu rs rt rd => Sys2Proof.Machine.execMipsModu rs rt rd s
  | .mipsDmul rs rt rd => Sys2Proof.Machine.execMipsDmul rs rt rd s
  | .mipsDmuh rs rt rd => Sys2Proof.Machine.execMipsDmuh rs rt rd s
  | .mipsDmulu rs rt rd => Sys2Proof.Machine.execMipsDmulu rs rt rd s
  | .mipsDmuhu rs rt rd => Sys2Proof.Machine.execMipsDmuhu rs rt rd s
  | .mipsDdiv rs rt rd => Sys2Proof.Machine.execMipsDdiv rs rt rd s
  | .mipsDmod rs rt rd => Sys2Proof.Machine.execMipsDmod rs rt rd s
  | .mipsDdivu rs rt rd => Sys2Proof.Machine.execMipsDdivu rs rt rd s
  | .mipsDmodu rs rt rd => Sys2Proof.Machine.execMipsDmodu rs rt rd s
  | .mipsAddi rs rt imm16 => Sys2Proof.Machine.execMipsAddi rs rt imm16 s
  | .mipsAddiu rs rt imm16 => Sys2Proof.Machine.execMipsAddiu rs rt imm16 s
  | .mipsSlti rs rt imm16 => Sys2Proof.Machine.execMipsSlti rs rt imm16 s
  | .mipsSltiu rs rt imm16 => Sys2Proof.Machine.execMipsSltiu rs rt imm16 s
  | .mipsAndi rs rt imm16 => Sys2Proof.Machine.execMipsAndi rs rt imm16 s
  | .mipsOri rs rt imm16 => Sys2Proof.Machine.execMipsOri rs rt imm16 s
  | .mipsXori rs rt imm16 => Sys2Proof.Machine.execMipsXori rs rt imm16 s
  | .mipsLui rs rt imm16 => Sys2Proof.Machine.execMipsLui rs rt imm16 s
  | .mipsDaddi rs rt imm16 => Sys2Proof.Machine.execMipsDaddi rs rt imm16 s
  | .mipsDaddiu rs rt imm16 => Sys2Proof.Machine.execMipsDaddiu rs rt imm16 s
  | .mipsLb base rt imm16 => Sys2Proof.Machine.execMipsLb base rt imm16 s
  | .mipsLbu base rt imm16 => Sys2Proof.Machine.execMipsLbu base rt imm16 s
  | .mipsLh base rt imm16 => Sys2Proof.Machine.execMipsLh base rt imm16 s
  | .mipsLhu base rt imm16 => Sys2Proof.Machine.execMipsLhu base rt imm16 s
  | .mipsLw base rt imm16 => Sys2Proof.Machine.execMipsLw base rt imm16 s
  | .mipsLwu base rt imm16 => Sys2Proof.Machine.execMipsLwu base rt imm16 s
  | .mipsLd base rt imm16 => Sys2Proof.Machine.execMipsLd base rt imm16 s
  | .mipsSb base rt imm16 => Sys2Proof.Machine.execMipsSb base rt imm16 s
  | .mipsSh base rt imm16 => Sys2Proof.Machine.execMipsSh base rt imm16 s
  | .mipsSw base rt imm16 => Sys2Proof.Machine.execMipsSw base rt imm16 s
  | .mipsSd base rt imm16 => Sys2Proof.Machine.execMipsSd base rt imm16 s
  | .mipsBeq rs rt imm16 => Sys2Proof.Machine.execMipsBeq rs rt imm16 s
  | .mipsBne rs rt imm16 => Sys2Proof.Machine.execMipsBne rs rt imm16 s
  | .mipsJ index => Sys2Proof.Machine.execMipsJ index s
  | .mipsJal index => Sys2Proof.Machine.execMipsJal index s
  | .mipsJr rs rt rd shamt => Sys2Proof.Machine.execMipsJr rs rt rd shamt s
  | .mipsJalr rs rt rd shamt => Sys2Proof.Machine.execMipsJalr rs rt rd shamt s
  | .mipsSyscall rs rt rd shamt => Sys2Proof.Machine.execMipsSyscall rs rt rd shamt s
  | .mipsLwc1 base ft imm16 => Sys2Proof.Machine.execMipsLwc1 base ft imm16 s
  | .mipsLdc1 base ft imm16 => Sys2Proof.Machine.execMipsLdc1 base ft imm16 s
  | .mipsSwc1 base ft imm16 => Sys2Proof.Machine.execMipsSwc1 base ft imm16 s
  | .mipsSdc1 base ft imm16 => Sys2Proof.Machine.execMipsSdc1 base ft imm16 s
  | .mipsMfc1 rt fs shamt funct => Sys2Proof.Machine.execMipsMfc1 rt fs shamt funct s
  | .mipsDmfc1 rt fs shamt funct => Sys2Proof.Machine.execMipsDmfc1 rt fs shamt funct s
  | .mipsMtc1 rt fs shamt funct => Sys2Proof.Machine.execMipsMtc1 rt fs shamt funct s
  | .mipsDmtc1 rt fs shamt funct => Sys2Proof.Machine.execMipsDmtc1 rt fs shamt funct s
  | .mipsBc1f imm16 => Sys2Proof.Machine.execMipsBc1f imm16 s
  | .mipsBc1t imm16 => Sys2Proof.Machine.execMipsBc1t imm16 s
  | .mipsAddS ft fs fd => Sys2Proof.Machine.execMipsAddS ft fs fd s
  | .mipsAddD ft fs fd => Sys2Proof.Machine.execMipsAddD ft fs fd s
  | .mipsSubS ft fs fd => Sys2Proof.Machine.execMipsSubS ft fs fd s
  | .mipsSubD ft fs fd => Sys2Proof.Machine.execMipsSubD ft fs fd s
  | .mipsMulS ft fs fd => Sys2Proof.Machine.execMipsMulS ft fs fd s
  | .mipsMulD ft fs fd => Sys2Proof.Machine.execMipsMulD ft fs fd s
  | .mipsDivS ft fs fd => Sys2Proof.Machine.execMipsDivS ft fs fd s
  | .mipsDivD ft fs fd => Sys2Proof.Machine.execMipsDivD ft fs fd s
  | .mipsSqrtS fs fd => Sys2Proof.Machine.execMipsSqrtS fs fd s
  | .mipsSqrtD fs fd => Sys2Proof.Machine.execMipsSqrtD fs fd s
  | .mipsCEqS ft fs => Sys2Proof.Machine.execMipsCEqS ft fs s
  | .mipsCEqD ft fs => Sys2Proof.Machine.execMipsCEqD ft fs s
  | .mipsCLtS ft fs => Sys2Proof.Machine.execMipsCLtS ft fs s
  | .mipsCLtD ft fs => Sys2Proof.Machine.execMipsCLtD ft fs s
  | .mipsCLeS ft fs => Sys2Proof.Machine.execMipsCLeS ft fs s
  | .mipsCLeD ft fs => Sys2Proof.Machine.execMipsCLeD ft fs s
  | .rvLui imm20 rd => Sys2Proof.Machine.execRvLui imm20 rd s
  | .rvAuipc imm20 rd => Sys2Proof.Machine.execRvAuipc imm20 rd s
  | .rvAddi imm12 rs1 rd => Sys2Proof.Machine.execRvAddi imm12 rs1 rd s
  | .rvSlti imm12 rs1 rd => Sys2Proof.Machine.execRvSlti imm12 rs1 rd s
  | .rvSltiu imm12 rs1 rd => Sys2Proof.Machine.execRvSltiu imm12 rs1 rd s
  | .rvXori imm12 rs1 rd => Sys2Proof.Machine.execRvXori imm12 rs1 rd s
  | .rvOri imm12 rs1 rd => Sys2Proof.Machine.execRvOri imm12 rs1 rd s
  | .rvAndi imm12 rs1 rd => Sys2Proof.Machine.execRvAndi imm12 rs1 rd s
  | .rvSlli shamt rs1 rd => Sys2Proof.Machine.execRvSlli shamt rs1 rd s
  | .rvSrli shamt rs1 rd => Sys2Proof.Machine.execRvSrli shamt rs1 rd s
  | .rvSrai shamt rs1 rd => Sys2Proof.Machine.execRvSrai shamt rs1 rd s
  | .rvAddiw imm12 rs1 rd => Sys2Proof.Machine.execRvAddiw imm12 rs1 rd s
  | .rvSlliw shamt rs1 rd => Sys2Proof.Machine.execRvSlliw shamt rs1 rd s
  | .rvSrliw shamt rs1 rd => Sys2Proof.Machine.execRvSrliw shamt rs1 rd s
  | .rvSraiw shamt rs1 rd => Sys2Proof.Machine.execRvSraiw shamt rs1 rd s
  | .rvAdd rs2 rs1 rd => Sys2Proof.Machine.execRvAdd rs2 rs1 rd s
  | .rvSub rs2 rs1 rd => Sys2Proof.Machine.execRvSub rs2 rs1 rd s
  | .rvSll rs2 rs1 rd => Sys2Proof.Machine.execRvSll rs2 rs1 rd s
  | .rvSlt rs2 rs1 rd => Sys2Proof.Machine.execRvSlt rs2 rs1 rd s
  | .rvSltu rs2 rs1 rd => Sys2Proof.Machine.execRvSltu rs2 rs1 rd s
  | .rvXor rs2 rs1 rd => Sys2Proof.Machine.execRvXor rs2 rs1 rd s
  | .rvSrl rs2 rs1 rd => Sys2Proof.Machine.execRvSrl rs2 rs1 rd s
  | .rvSra rs2 rs1 rd => Sys2Proof.Machine.execRvSra rs2 rs1 rd s
  | .rvOr rs2 rs1 rd => Sys2Proof.Machine.execRvOr rs2 rs1 rd s
  | .rvAnd rs2 rs1 rd => Sys2Proof.Machine.execRvAnd rs2 rs1 rd s
  | .rvAddw rs2 rs1 rd => Sys2Proof.Machine.execRvAddw rs2 rs1 rd s
  | .rvSubw rs2 rs1 rd => Sys2Proof.Machine.execRvSubw rs2 rs1 rd s
  | .rvSllw rs2 rs1 rd => Sys2Proof.Machine.execRvSllw rs2 rs1 rd s
  | .rvSrlw rs2 rs1 rd => Sys2Proof.Machine.execRvSrlw rs2 rs1 rd s
  | .rvSraw rs2 rs1 rd => Sys2Proof.Machine.execRvSraw rs2 rs1 rd s
  | .rvMul rs2 rs1 rd => Sys2Proof.Machine.execRvMul rs2 rs1 rd s
  | .rvMulh rs2 rs1 rd => Sys2Proof.Machine.execRvMulh rs2 rs1 rd s
  | .rvMulhsu rs2 rs1 rd => Sys2Proof.Machine.execRvMulhsu rs2 rs1 rd s
  | .rvMulhu rs2 rs1 rd => Sys2Proof.Machine.execRvMulhu rs2 rs1 rd s
  | .rvDiv rs2 rs1 rd => Sys2Proof.Machine.execRvDiv rs2 rs1 rd s
  | .rvDivu rs2 rs1 rd => Sys2Proof.Machine.execRvDivu rs2 rs1 rd s
  | .rvRem rs2 rs1 rd => Sys2Proof.Machine.execRvRem rs2 rs1 rd s
  | .rvRemu rs2 rs1 rd => Sys2Proof.Machine.execRvRemu rs2 rs1 rd s
  | .rvMulw rs2 rs1 rd => Sys2Proof.Machine.execRvMulw rs2 rs1 rd s
  | .rvDivw rs2 rs1 rd => Sys2Proof.Machine.execRvDivw rs2 rs1 rd s
  | .rvDivuw rs2 rs1 rd => Sys2Proof.Machine.execRvDivuw rs2 rs1 rd s
  | .rvRemw rs2 rs1 rd => Sys2Proof.Machine.execRvRemw rs2 rs1 rd s
  | .rvRemuw rs2 rs1 rd => Sys2Proof.Machine.execRvRemuw rs2 rs1 rd s
  | .rvLb imm12 rs1 rd => Sys2Proof.Machine.execRvLb imm12 rs1 rd s
  | .rvLh imm12 rs1 rd => Sys2Proof.Machine.execRvLh imm12 rs1 rd s
  | .rvLw imm12 rs1 rd => Sys2Proof.Machine.execRvLw imm12 rs1 rd s
  | .rvLd imm12 rs1 rd => Sys2Proof.Machine.execRvLd imm12 rs1 rd s
  | .rvLbu imm12 rs1 rd => Sys2Proof.Machine.execRvLbu imm12 rs1 rd s
  | .rvLhu imm12 rs1 rd => Sys2Proof.Machine.execRvLhu imm12 rs1 rd s
  | .rvLwu imm12 rs1 rd => Sys2Proof.Machine.execRvLwu imm12 rs1 rd s
  | .rvSb imm7 rs2 rs1 imm5 => Sys2Proof.Machine.execRvSb imm7 rs2 rs1 imm5 s
  | .rvSh imm7 rs2 rs1 imm5 => Sys2Proof.Machine.execRvSh imm7 rs2 rs1 imm5 s
  | .rvSw imm7 rs2 rs1 imm5 => Sys2Proof.Machine.execRvSw imm7 rs2 rs1 imm5 s
  | .rvSd imm7 rs2 rs1 imm5 => Sys2Proof.Machine.execRvSd imm7 rs2 rs1 imm5 s
  | .rvBeq imm7 rs2 rs1 imm5 => Sys2Proof.Machine.execRvBeq imm7 rs2 rs1 imm5 s
  | .rvBne imm7 rs2 rs1 imm5 => Sys2Proof.Machine.execRvBne imm7 rs2 rs1 imm5 s
  | .rvBlt imm7 rs2 rs1 imm5 => Sys2Proof.Machine.execRvBlt imm7 rs2 rs1 imm5 s
  | .rvBge imm7 rs2 rs1 imm5 => Sys2Proof.Machine.execRvBge imm7 rs2 rs1 imm5 s
  | .rvBltu imm7 rs2 rs1 imm5 => Sys2Proof.Machine.execRvBltu imm7 rs2 rs1 imm5 s
  | .rvBgeu imm7 rs2 rs1 imm5 => Sys2Proof.Machine.execRvBgeu imm7 rs2 rs1 imm5 s
  | .rvJal imm20 rd => Sys2Proof.Machine.execRvJal imm20 rd s
  | .rvJalr imm12 rs1 rd => Sys2Proof.Machine.execRvJalr imm12 rs1 rd s
  | .rvEcall rs1 rd => Sys2Proof.Machine.execRvEcall rs1 rd s
  | .rvFlw imm12 rs1 fd => Sys2Proof.Machine.execRvFlw imm12 rs1 fd s
  | .rvFld imm12 rs1 fd => Sys2Proof.Machine.execRvFld imm12 rs1 fd s
  | .rvFsw imm7 fs2 rs1 imm5 => Sys2Proof.Machine.execRvFsw imm7 fs2 rs1 imm5 s
  | .rvFsd imm7 fs2 rs1 imm5 => Sys2Proof.Machine.execRvFsd imm7 fs2 rs1 imm5 s
  | .rvFaddS fs2 fs1 rm fd => Sys2Proof.Machine.execRvFaddS fs2 fs1 rm fd s
  | .rvFaddD fs2 fs1 rm fd => Sys2Proof.Machine.execRvFaddD fs2 fs1 rm fd s
  | .rvFsubS fs2 fs1 rm fd => Sys2Proof.Machine.execRvFsubS fs2 fs1 rm fd s
  | .rvFsubD fs2 fs1 rm fd => Sys2Proof.Machine.execRvFsubD fs2 fs1 rm fd s
  | .rvFmulS fs2 fs1 rm fd => Sys2Proof.Machine.execRvFmulS fs2 fs1 rm fd s
  | .rvFmulD fs2 fs1 rm fd => Sys2Proof.Machine.execRvFmulD fs2 fs1 rm fd s
  | .rvFdivS fs2 fs1 rm fd => Sys2Proof.Machine.execRvFdivS fs2 fs1 rm fd s
  | .rvFdivD fs2 fs1 rm fd => Sys2Proof.Machine.execRvFdivD fs2 fs1 rm fd s
  | .rvFsqrtS fs1 rm fd => Sys2Proof.Machine.execRvFsqrtS fs1 rm fd s
  | .rvFsqrtD fs1 rm fd => Sys2Proof.Machine.execRvFsqrtD fs1 rm fd s
  | .rvFsgnjS fs2 fs1 fd => Sys2Proof.Machine.execRvFsgnjS fs2 fs1 fd s
  | .rvFsgnjD fs2 fs1 fd => Sys2Proof.Machine.execRvFsgnjD fs2 fs1 fd s
  | .rvFsgnjnS fs2 fs1 fd => Sys2Proof.Machine.execRvFsgnjnS fs2 fs1 fd s
  | .rvFsgnjnD fs2 fs1 fd => Sys2Proof.Machine.execRvFsgnjnD fs2 fs1 fd s
  | .rvFsgnjxS fs2 fs1 fd => Sys2Proof.Machine.execRvFsgnjxS fs2 fs1 fd s
  | .rvFsgnjxD fs2 fs1 fd => Sys2Proof.Machine.execRvFsgnjxD fs2 fs1 fd s
  | .rvFminS fs2 fs1 fd => Sys2Proof.Machine.execRvFminS fs2 fs1 fd s
  | .rvFminD fs2 fs1 fd => Sys2Proof.Machine.execRvFminD fs2 fs1 fd s
  | .rvFmaxS fs2 fs1 fd => Sys2Proof.Machine.execRvFmaxS fs2 fs1 fd s
  | .rvFmaxD fs2 fs1 fd => Sys2Proof.Machine.execRvFmaxD fs2 fs1 fd s
  | .rvFeqS fs2 fs1 rd => Sys2Proof.Machine.execRvFeqS fs2 fs1 rd s
  | .rvFeqD fs2 fs1 rd => Sys2Proof.Machine.execRvFeqD fs2 fs1 rd s
  | .rvFltS fs2 fs1 rd => Sys2Proof.Machine.execRvFltS fs2 fs1 rd s
  | .rvFltD fs2 fs1 rd => Sys2Proof.Machine.execRvFltD fs2 fs1 rd s
  | .rvFleS fs2 fs1 rd => Sys2Proof.Machine.execRvFleS fs2 fs1 rd s
  | .rvFleD fs2 fs1 rd => Sys2Proof.Machine.execRvFleD fs2 fs1 rd s
  | .rvFclassS fs1 rd => Sys2Proof.Machine.execRvFclassS fs1 rd s
  | .rvFclassD fs1 rd => Sys2Proof.Machine.execRvFclassD fs1 rd s
  | .rvFmvXW fs1 rd => Sys2Proof.Machine.execRvFmvXW fs1 rd s
  | .rvFmvXD fs1 rd => Sys2Proof.Machine.execRvFmvXD fs1 rd s
  | .rvFmvWX rs1 fd => Sys2Proof.Machine.execRvFmvWX rs1 fd s
  | .rvFmvDX rs1 fd => Sys2Proof.Machine.execRvFmvDX rs1 fd s
  | .rvFmaddS fs3 fs2 fs1 rm fd => Sys2Proof.Machine.execRvFmaddS fs3 fs2 fs1 rm fd s
  | .rvFmaddD fs3 fs2 fs1 rm fd => Sys2Proof.Machine.execRvFmaddD fs3 fs2 fs1 rm fd s
  | .rvFmsubS fs3 fs2 fs1 rm fd => Sys2Proof.Machine.execRvFmsubS fs3 fs2 fs1 rm fd s
  | .rvFmsubD fs3 fs2 fs1 rm fd => Sys2Proof.Machine.execRvFmsubD fs3 fs2 fs1 rm fd s
  | .rvFnmsubS fs3 fs2 fs1 rm fd => Sys2Proof.Machine.execRvFnmsubS fs3 fs2 fs1 rm fd s
  | .rvFnmsubD fs3 fs2 fs1 rm fd => Sys2Proof.Machine.execRvFnmsubD fs3 fs2 fs1 rm fd s
  | .rvFnmaddS fs3 fs2 fs1 rm fd => Sys2Proof.Machine.execRvFnmaddS fs3 fs2 fs1 rm fd s
  | .rvFnmaddD fs3 fs2 fs1 rm fd => Sys2Proof.Machine.execRvFnmaddD fs3 fs2 fs1 rm fd s

end Sys2Proof.Machine
end

