-- ==== Sys2Proof/Machine/Vectors.lean ====
section
/-! DEFINITION. The two control-signal tables as one function of the instruction: the main unit's `decode_signals` (spec/40_datapath.md
R162) and the coprocessor's `fpu_decode_signals` (R177). Both key on the same examined fields, so a word gets both of its
vectors from the instruction it is. -/

namespace Sys2Proof.Machine

/-- R162, R177: the vectors of an instruction. -/
def vectors : Instr → Vectors
  | .mipsAdd .. => vecMipsAdd
  | .mipsAddu .. => vecMipsAddu
  | .mipsSub .. => vecMipsSub
  | .mipsSubu .. => vecMipsSubu
  | .mipsAnd .. => vecMipsAnd
  | .mipsOr .. => vecMipsOr
  | .mipsXor .. => vecMipsXor
  | .mipsNor .. => vecMipsNor
  | .mipsSlt .. => vecMipsSlt
  | .mipsSltu .. => vecMipsSltu
  | .mipsDadd .. => vecMipsDadd
  | .mipsDaddu .. => vecMipsDaddu
  | .mipsDsub .. => vecMipsDsub
  | .mipsDsubu .. => vecMipsDsubu
  | .mipsSll _ _ _ sa => vecMipsSll sa
  | .mipsSrl _ _ _ sa => vecMipsSrl sa
  | .mipsSra _ _ _ sa => vecMipsSra sa
  | .mipsDsll _ _ _ sa => vecMipsDsll sa
  | .mipsDsrl _ _ _ sa => vecMipsDsrl sa
  | .mipsDsra _ _ _ sa => vecMipsDsra sa
  | .mipsDsll32 _ _ _ sa => vecMipsDsll32 sa
  | .mipsDsrl32 _ _ _ sa => vecMipsDsrl32 sa
  | .mipsDsra32 _ _ _ sa => vecMipsDsra32 sa
  | .mipsMul .. => vecMipsMul
  | .mipsMuh .. => vecMipsMuh
  | .mipsMulu .. => vecMipsMulu
  | .mipsMuhu .. => vecMipsMuhu
  | .mipsDiv .. => vecMipsDiv
  | .mipsMod .. => vecMipsMod
  | .mipsDivu .. => vecMipsDivu
  | .mipsModu .. => vecMipsModu
  | .mipsDmul .. => vecMipsDmul
  | .mipsDmuh .. => vecMipsDmuh
  | .mipsDmulu .. => vecMipsDmulu
  | .mipsDmuhu .. => vecMipsDmuhu
  | .mipsDdiv .. => vecMipsDdiv
  | .mipsDmod .. => vecMipsDmod
  | .mipsDdivu .. => vecMipsDdivu
  | .mipsDmodu .. => vecMipsDmodu
  | .mipsAddi .. => vecMipsAddi
  | .mipsAddiu .. => vecMipsAddiu
  | .mipsSlti .. => vecMipsSlti
  | .mipsSltiu .. => vecMipsSltiu
  | .mipsAndi .. => vecMipsAndi
  | .mipsOri .. => vecMipsOri
  | .mipsXori .. => vecMipsXori
  | .mipsLui .. => vecMipsLui
  | .mipsDaddi .. => vecMipsDaddi
  | .mipsDaddiu .. => vecMipsDaddiu
  | .mipsLb .. => vecMipsLb
  | .mipsLbu .. => vecMipsLbu
  | .mipsLh .. => vecMipsLh
  | .mipsLhu .. => vecMipsLhu
  | .mipsLw .. => vecMipsLw
  | .mipsLwu .. => vecMipsLwu
  | .mipsLd .. => vecMipsLd
  | .mipsSb .. => vecMipsSb
  | .mipsSh .. => vecMipsSh
  | .mipsSw .. => vecMipsSw
  | .mipsSd .. => vecMipsSd
  | .mipsBeq .. => vecMipsBeq
  | .mipsBne .. => vecMipsBne
  | .mipsJ .. => vecMipsJ
  | .mipsJal .. => vecMipsJal
  | .mipsJr .. => vecMipsJr
  | .mipsJalr .. => vecMipsJalr
  | .mipsSyscall .. => vecMipsSyscall
  | .mipsLwc1 .. => vecMipsLwc1
  | .mipsLdc1 .. => vecMipsLdc1
  | .mipsSwc1 .. => vecMipsSwc1
  | .mipsSdc1 .. => vecMipsSdc1
  | .mipsMfc1 .. => vecMipsMfc1
  | .mipsDmfc1 .. => vecMipsDmfc1
  | .mipsMtc1 .. => vecMipsMtc1
  | .mipsDmtc1 .. => vecMipsDmtc1
  | .mipsBc1f .. => vecMipsBc1f
  | .mipsBc1t .. => vecMipsBc1t
  | .mipsAddS .. => vecMipsAddS
  | .mipsAddD .. => vecMipsAddD
  | .mipsSubS .. => vecMipsSubS
  | .mipsSubD .. => vecMipsSubD
  | .mipsMulS .. => vecMipsMulS
  | .mipsMulD .. => vecMipsMulD
  | .mipsDivS .. => vecMipsDivS
  | .mipsDivD .. => vecMipsDivD
  | .mipsSqrtS .. => vecMipsSqrtS
  | .mipsSqrtD .. => vecMipsSqrtD
  | .mipsCEqS .. => vecMipsCEqS
  | .mipsCEqD .. => vecMipsCEqD
  | .mipsCLtS .. => vecMipsCLtS
  | .mipsCLtD .. => vecMipsCLtD
  | .mipsCLeS .. => vecMipsCLeS
  | .mipsCLeD .. => vecMipsCLeD
  | .rvLui .. => vecRvLui
  | .rvAuipc .. => vecRvAuipc
  | .rvAddi .. => vecRvAddi
  | .rvSlti .. => vecRvSlti
  | .rvSltiu .. => vecRvSltiu
  | .rvXori .. => vecRvXori
  | .rvOri .. => vecRvOri
  | .rvAndi .. => vecRvAndi
  | .rvSlli shamt _ _ => vecRvSlli shamt
  | .rvSrli shamt _ _ => vecRvSrli shamt
  | .rvSrai shamt _ _ => vecRvSrai shamt
  | .rvAddiw .. => vecRvAddiw
  | .rvSlliw shamt _ _ => vecRvSlliw shamt
  | .rvSrliw shamt _ _ => vecRvSrliw shamt
  | .rvSraiw shamt _ _ => vecRvSraiw shamt
  | .rvAdd .. => vecRvAdd
  | .rvSub .. => vecRvSub
  | .rvSll .. => vecRvSll
  | .rvSlt .. => vecRvSlt
  | .rvSltu .. => vecRvSltu
  | .rvXor .. => vecRvXor
  | .rvSrl .. => vecRvSrl
  | .rvSra .. => vecRvSra
  | .rvOr .. => vecRvOr
  | .rvAnd .. => vecRvAnd
  | .rvAddw .. => vecRvAddw
  | .rvSubw .. => vecRvSubw
  | .rvSllw .. => vecRvSllw
  | .rvSrlw .. => vecRvSrlw
  | .rvSraw .. => vecRvSraw
  | .rvMul .. => vecRvMul
  | .rvMulh .. => vecRvMulh
  | .rvMulhsu .. => vecRvMulhsu
  | .rvMulhu .. => vecRvMulhu
  | .rvDiv .. => vecRvDiv
  | .rvDivu .. => vecRvDivu
  | .rvRem .. => vecRvRem
  | .rvRemu .. => vecRvRemu
  | .rvMulw .. => vecRvMulw
  | .rvDivw .. => vecRvDivw
  | .rvDivuw .. => vecRvDivuw
  | .rvRemw .. => vecRvRemw
  | .rvRemuw .. => vecRvRemuw
  | .rvLb .. => vecRvLb
  | .rvLh .. => vecRvLh
  | .rvLw .. => vecRvLw
  | .rvLd .. => vecRvLd
  | .rvLbu .. => vecRvLbu
  | .rvLhu .. => vecRvLhu
  | .rvLwu .. => vecRvLwu
  | .rvSb .. => vecRvSb
  | .rvSh .. => vecRvSh
  | .rvSw .. => vecRvSw
  | .rvSd .. => vecRvSd
  | .rvBeq .. => vecRvBeq
  | .rvBne .. => vecRvBne
  | .rvBlt .. => vecRvBlt
  | .rvBge .. => vecRvBge
  | .rvBltu .. => vecRvBltu
  | .rvBgeu .. => vecRvBgeu
  | .rvJal .. => vecRvJal
  | .rvJalr .. => vecRvJalr
  | .rvEcall .. => vecRvEcall
  | .rvFlw .. => vecRvFlw
  | .rvFld .. => vecRvFld
  | .rvFsw .. => vecRvFsw
  | .rvFsd .. => vecRvFsd
  | .rvFaddS _ _ rm _ => vecRvFaddS rm
  | .rvFaddD _ _ rm _ => vecRvFaddD rm
  | .rvFsubS _ _ rm _ => vecRvFsubS rm
  | .rvFsubD _ _ rm _ => vecRvFsubD rm
  | .rvFmulS _ _ rm _ => vecRvFmulS rm
  | .rvFmulD _ _ rm _ => vecRvFmulD rm
  | .rvFdivS _ _ rm _ => vecRvFdivS rm
  | .rvFdivD _ _ rm _ => vecRvFdivD rm
  | .rvFsqrtS _ rm _ => vecRvFsqrtS rm
  | .rvFsqrtD _ rm _ => vecRvFsqrtD rm
  | .rvFsgnjS .. => vecRvFsgnjS
  | .rvFsgnjD .. => vecRvFsgnjD
  | .rvFsgnjnS .. => vecRvFsgnjnS
  | .rvFsgnjnD .. => vecRvFsgnjnD
  | .rvFsgnjxS .. => vecRvFsgnjxS
  | .rvFsgnjxD .. => vecRvFsgnjxD
  | .rvFminS .. => vecRvFminS
  | .rvFminD .. => vecRvFminD
  | .rvFmaxS .. => vecRvFmaxS
  | .rvFmaxD .. => vecRvFmaxD
  | .rvFeqS .. => vecRvFeqS
  | .rvFeqD .. => vecRvFeqD
  | .rvFltS .. => vecRvFltS
  | .rvFltD .. => vecRvFltD
  | .rvFleS .. => vecRvFleS
  | .rvFleD .. => vecRvFleD
  | .rvFclassS .. => vecRvFclassS
  | .rvFclassD .. => vecRvFclassD
  | .rvFmvXW .. => vecRvFmvXW
  | .rvFmvXD .. => vecRvFmvXD
  | .rvFmvWX .. => vecRvFmvWX
  | .rvFmvDX .. => vecRvFmvDX
  | .rvFmaddS _ _ _ rm _ => vecRvFmaddS rm
  | .rvFmaddD _ _ _ rm _ => vecRvFmaddD rm
  | .rvFmsubS _ _ _ rm _ => vecRvFmsubS rm
  | .rvFmsubD _ _ _ rm _ => vecRvFmsubD rm
  | .rvFnmsubS _ _ _ rm _ => vecRvFnmsubS rm
  | .rvFnmsubD _ _ _ rm _ => vecRvFnmsubD rm
  | .rvFnmaddS _ _ _ rm _ => vecRvFnmaddS rm
  | .rvFnmaddD _ _ _ rm _ => vecRvFnmaddD rm

end Sys2Proof.Machine
end

