-- ==== Sys2Proof/Machine/Tick.lean ====
section
/-! DEFINITION. The fetch (spec/20_memory.md R90), the tick (spec/40_datapath.md R210, R212, R213) and what the step does with
a fetched word (R211). -/

namespace Sys2Proof.Machine

/-- R90: the word at `pc`, none where the fetch reaches outside the memory. -/
def fetchWord (s : State) : Option Word32 :=
  match s.memRead s.pc 4 with
  | .ok v => some (v.setWidth 32)
  | .error _ => none

/-- R212: a tick or a step of this state changes nothing: an error is latched, or the machine is halted. -/
abbrev State.stopped (s : State) : Prop := s.fault.isSome = true ∨ s.run = .halted

/-! ## One tick -/

/-- R708: commits what a stage answers, or raises its error. -/
def commitStage (s : State) : Except ErrKind State → State
  | .ok t => t
  | .error k => s.raise k s.lat.ir

/-- R213: the Decode tick for a fetched word. -/
def tickDecoded (d : Decoded) (w : Word32) (s : State) : State :=
  match d with
  | .instr i => latchDecode i.record w (vectors i) s
  | .inert r => latchDecode r w inertVectors s
  | .unsupported op => s.raise (.unsupportedOpcode op) w

/-- R213: the Decode tick. -/
def tickDecode (s : State) : Host.Outcome State Fault Refusal :=
  if s.pc = s.progEnd then .next { s with run := .halted }
  else
    match fetchWord s with
    | none => .fault .fetchOutsideMemory
    | some w => .next (tickDecoded (decode s.cfg.isa w) w s)

/-- R210, R212: one tick, the stage `stage` names. -/
def tick (s : State) : Host.Outcome State Fault Refusal :=
  if ¬ s.cfg.wf then .refused .illegalConfig
  else if s.stopped then .next s
  else
    match s.stage with
    | .decode => tickDecode s
    | .execute => .next (commitStage s (executeStage s))
    | .memory => .next (commitStage s (memoryStage s))
    | .writeback => .next (commitStage s (writebackStage s))

/-! ## A step from Decode -/

/-- R125, R211: runs a fetched word: an instruction by its meaning, an unmatched word as inert, an unknown primary opcode as
an error raised in Decode (R702). -/
def runDecoded (d : Decoded) (w : Word32) (s : State) : Host.Outcome State Fault Refusal :=
  match d with
  | .instr i => exec i s
  | .inert r => runInert r w s
  | .unsupported op => .next (s.raise (.unsupportedOpcode op) w)

/-- R211, R213: a step that begins at Decode: at the end of the program the machine halts, otherwise the word at `pc` runs. -/
def stepDecode (s : State) : Host.Outcome State Fault Refusal :=
  if s.pc = s.progEnd then .next { s with run := .halted }
  else
    match fetchWord s with
    | none => .fault .fetchOutsideMemory
    | some w => runDecoded (decode s.cfg.isa w) w s

/-- A step that begins in the middle of an instruction performs the ticks that remain of it.
DEDUCED (log entry 6): R211 describes a step from Decode and R736 says that such a state is well defined. -/
def stepRest (s : State) : Host.Outcome State Fault Refusal :=
  match s.stage with
  | .decode => stepDecode s
  | .execute => .next (fromExecute s)
  | .memory => .next (fromMemory s)
  | .writeback => .next (fromWriteback s)

end Sys2Proof.Machine
end

