-- ==== Sys2Proof/Machine/Step.lean ====
section
/-! DEFINITION. The step of spec/40_datapath.md R211: one whole instruction. -/

namespace Sys2Proof.Machine

/-- R211, R212: one step. Parameters outside their ranges are refused (spec/93_implementation_defined.md I50); a state with a
latched error or a halted one changes nothing. -/
def step (s : State) : Host.Outcome State Fault Refusal :=
  if ¬ s.cfg.wf then .refused .illegalConfig
  else if s.stopped then .next s
  else stepRest s

/-- A state whose next step fetches and runs the given word (log entry 5): the word stands in memory at `pc`, the program
reaches beyond it, the instance is of the word's instruction set (log entry 4) and the machine is at Decode of a run. -/
def State.withFetchWord (s : State) (nbits w : Nat) : State :=
  let word : Word32 := BitVec.ofNat 32 (w % 2 ^ nbits)
  { s with
    cfg := { s.cfg with isa := tableIsa word }
    mem := s.mem.writeBytes s.pc.toNat (toBytes s.cfg.byteOrder 4 word.toNat)
    progEnd := if s.progEnd.toNat < s.pc.toNat + 4 then s.pc + 4 else s.progEnd
    run := .running
    stage := .decode
    fault := none }

end Sys2Proof.Machine
end

