-- ==== Sys2Proof/Machine/HostPort.lean ====
section
/-! DEFINITION. The host interface of spec/70_reset_and_hazards.md (R750 to R763): reset, load, the register and memory ports
(spec/40_datapath.md R250 to R252, spec/20_memory.md R99) and the results of a step (R211). Latches are observed by reading
`State.lat` (R760). -/

namespace Sys2Proof.Machine

/-! ## Results of a step (R211, R762) -/

/-- R211: what `step` returns. -/
inductive StepResult where
  /-- `Ok(Completed)`. -/
  | completed
  /-- `Ok(Halted)`. -/
  | halted
  /-- `Err(e)`. -/
  | err (e : ExecError)
deriving DecidableEq, Repr

/-- R211, R212, R708: what a step or a tick that ends in a state returns: the recorded error, or whether the machine is
halted. The rules give the results of a step (R211), of a tick that raises (R708) and of a tick of a stopped machine (R212).
What a single tick returns that raises nothing and does not halt is not stated: the model answers `Ok(Completed)`, as for
a step.
DESIGN CHOICE (log entry 16), unsafe. -/
def stepResult (s : State) : StepResult :=
  match s.fault with
  | some e => .err e
  | none =>
    match s.run with
    | .halted => .halted
    | .running => .completed

/-- R715: `is_halted()`. -/
def isHalted (s : State) : Bool := decide (s.run = .halted)

/-! ## Reset and load (R750 to R752) -/

/-- R750: reset of an instance; the parameters are not state (R24) and stay. -/
def hostReset (s : State) : State := State.resetWith s.cfg

/-- R752: the causes of a `LoadError`. -/
inductive LoadError where
  | tooLarge
  | badStart
deriving DecidableEq, Repr

/-- R752: the program's words stored from an address upward. -/
def storeWords (order : ByteOrder) (m : Memory) (a : Nat) : List Word32 → Memory
  | [] => m
  | w :: ws => storeWords order (m.writeBytes a (toBytes order 4 w.toNat)) (a + 4) ws

/-- R752: `load(words, start_pc)`. A failed load changes nothing: it answers no state. -/
def load (s : State) (words : List Word32) (startPc : Word) : Except LoadError State :=
  if s.cfg.memCapacity < 4 * words.length then .error .tooLarge
  else if startPc.toNat % 4 ≠ 0 ∨ 4 * words.length < startPc.toNat then .error .badStart
  else
    .ok { State.resetWith s.cfg with
      mem := storeWords s.cfg.byteOrder [] 0 words
      progEnd := BitVec.ofNat 64 (4 * words.length)
      pc := startPc }

/-! ## Ports -/

/-- Why a port refuses a request; the request changes nothing and no error is latched (R250, R704, R760). -/
inductive PortError where
  /-- R250, R99: an error of the taxonomy of R701. -/
  | error (k : ErrKind)
  /-- R760: a host write while `stage` is not Decode. R760 says only that it "returns an error" and names none: the name and
  its precedence over every other error of a port are the model's.
  DESIGN CHOICE (log entry 15), unsafe. -/
  | inFlight
  /-- R252: a name that no table lists. -/
  | unknownRegister
deriving DecidableEq, Repr

/-- R250: the register port's read. -/
def readRegister (s : State) (id : RegIdent) : Word :=
  match id with
  | .x i => s.readX i
  | .pc => s.pc

/-- R250, R760: the register port's write. A write while `stage` is not Decode answers `inFlight` whatever the register and
the value are, also where R250 names an error for them (register 0, an invalid stack pointer or pc).
DESIGN CHOICE (log entry 15), unsafe. -/
def writeRegister (s : State) (id : RegIdent) (v : Word) : Except PortError State :=
  if s.stage ≠ .decode then .error .inFlight
  else
    match id with
    | .x i =>
      if i = 0 then .error (.error (.immutableRegister (.x 0)))
      else if s.xWritable i v then .ok (s.setX i v)
      else .error (.error (.invalidValue (.x i) v))
    | .pc => if s.pcValid v then .ok { s with pc := v } else .error (.error (.invalidValue .pc v))

/-- R251: the floating-point port's read. -/
def readFloat (s : State) (i : RegIx) : Word := s.readF i

/-- R251, R760: the floating-point port's write, unchecked. That the error of a write while `stage` is not Decode is
`inFlight` is the model's.
DESIGN CHOICE (log entry 15), unsafe. -/
def writeFloatPort (s : State) (i : RegIx) (v : Word) : Except PortError State :=
  if s.stage ≠ .decode then .error .inFlight else .ok (s.setF i v)

/-- R251: the read of the condition code. -/
def readCc (s : State) : Bool := s.cc

/-- R99: the widths of the memory ports; there is no doubleword. -/
inductive HostWidth where
  | byte
  | half
  | word
deriving DecidableEq, Repr

/-- R99: the number of bytes of a port access. -/
def HostWidth.bytes : HostWidth → Nat
  | .byte => 1
  | .half => 2
  | .word => 4

/-- R99: `read_memory_word/half/byte`: the raw value, unextended. -/
def readMemory (s : State) (width : HostWidth) (a : Word) : Except PortError Word :=
  match s.memRead a width.bytes with
  | .ok v => .ok v
  | .error k => .error (.error k)

/-- R99, R760: `write_memory_word/half/byte`. A write while `stage` is not Decode answers `inFlight`, also where the address
is out of range and R99 names `OutOfBounds`.
DESIGN CHOICE (log entry 15), unsafe. -/
def writeMemory (s : State) (width : HostWidth) (a v : Word) : Except PortError State :=
  if s.stage ≠ .decode then .error .inFlight
  else
    match s.memWrite a width.bytes v with
    | .ok t => .ok t
    | .error k => .error (.error k)

/-! ## Name lookup (R252) -/

/-- What a name names: a register of the general file (R33) or of the floating-point file (R46). -/
inductive NamedRegister where
  | general (id : RegIdent)
  | float (index : RegIx)
deriving DecidableEq, Repr

/-- R33: `r0` to `r31`, in either set. -/
def rNames : List String :=
  ["r0", "r1", "r2", "r3", "r4", "r5", "r6", "r7", "r8", "r9", "r10", "r11", "r12", "r13", "r14", "r15", "r16", "r17", "r18",
   "r19", "r20", "r21", "r22", "r23", "r24", "r25", "r26", "r27", "r28", "r29", "r30", "r31"]

/-- R33: `x0` to `x31`, in either set. -/
def xNames : List String :=
  ["x0", "x1", "x2", "x3", "x4", "x5", "x6", "x7", "x8", "x9", "x10", "x11", "x12", "x13", "x14", "x15", "x16", "x17", "x18",
   "x19", "x20", "x21", "x22", "x23", "x24", "x25", "x26", "x27", "x28", "x29", "x30", "x31"]

/-- R46: `f0` to `f31`. -/
def fNames : List String :=
  ["f0", "f1", "f2", "f3", "f4", "f5", "f6", "f7", "f8", "f9", "f10", "f11", "f12", "f13", "f14", "f15", "f16", "f17", "f18",
   "f19", "f20", "f21", "f22", "f23", "f24", "f25", "f26", "f27", "f28", "f29", "f30", "f31"]

/-- R33: the software names of `MIPS64L`, indices 0 to 31. -/
def mipsNames : List String :=
  ["zero", "at", "v0", "v1", "a0", "a1", "a2", "a3", "t0", "t1", "t2", "t3", "t4", "t5", "t6", "t7", "s0", "s1", "s2", "s3",
   "s4", "s5", "s6", "s7", "t8", "t9", "k0", "k1", "gp", "sp", "fp", "ra"]

/-- R33: the names of `RV64L`, indices 0 to 31. -/
def rvNames : List String :=
  ["zero", "ra", "sp", "gp", "tp", "t0", "t1", "t2", "s0", "s1", "a0", "a1", "a2", "a3", "a4", "a5", "a6", "a7", "s2", "s3",
   "s4", "s5", "s6", "s7", "s8", "s9", "s10", "s11", "t3", "t4", "t5", "t6"]

/-- R33: the software names of a set. -/
def abiNames : Isa → List String
  | .mips64l => mipsNames
  | .rv64l => rvNames

/-- R33: the general register a name names; in `RV64L`, `fp` is a second name of index 8. -/
def generalIndex (isa : Isa) (name : String) : Option Nat :=
  match rNames.idxOf? name with
  | some i => some i
  | none =>
    match xNames.idxOf? name with
    | some i => some i
    | none =>
      match (abiNames isa).idxOf? name with
      | some i => some i
      | none => if isa = .rv64l ∧ name = "fp" then some 8 else none

/-- R252: name lookup by the tables of R33 and R46. The tables list no name for the pc (log entry 12). -/
def lookupName (isa : Isa) (name : String) : Except PortError NamedRegister :=
  match generalIndex isa name with
  | some i => .ok (.general (.x (BitVec.ofNat 5 i)))
  | none =>
    match fNames.idxOf? name with
    | some i => .ok (.float (BitVec.ofNat 5 i))
    | none => .error .unknownRegister

end Sys2Proof.Machine
end

