-- ==== Sys2Proof/Safety.lean ====
section
/-! DEFINITION. What a good state is, and the words the statements are written in: an instruction completes in a state, raises
an error, writes a register, loads, stores. -/

namespace Sys2Proof.Machine

/-! ## Good states -/

/-- The canonical form of the memory, within the capacity (R80). -/
abbrev State.memOk (s : State) : Prop := s.mem.wf ∧ ∀ c ∈ s.mem, c.1 < s.cfg.memCapacity

/-- R38, R39, R40: the program ends at a multiple of 4 within the memory, and the pc is a multiple of 4 at most the end of
the program. -/
abbrev State.pcOk (s : State) : Prop :=
  s.progEnd.toNat % 4 = 0 ∧ s.progEnd.toNat ≤ s.cfg.memCapacity ∧ s.pcValid s.pc

/-- R32: the stack pointer is valid. -/
abbrev State.spOk (s : State) : Prop := s.spValid (s.readX s.cfg.isa.spIndex)

/-- The invariant that every step keeps. -/
abbrev State.Inv (s : State) : Prop := s.cfg.wf ∧ s.memOk ∧ s.pcOk ∧ s.spOk

/-- R213: the machine is about to begin an instruction. -/
abbrev State.ready (s : State) : Prop := s.cfg.wf ∧ ¬ s.stopped ∧ s.stage = .decode

/-! ## What an instruction does

Each of these says the whole next state but for the stage latches (R53), which the instruction leaves full of its own
intermediate signals: what a state built from `s` does not name is as in `s`. -/

/-- `i` answers the next state `t`, at Decode of the next instruction. -/
def Completes (i : Instr) (s t : State) : Prop := ∃ L, exec i s = .next { t with stage := .decode, lat := L }

/-- R708: `i` raises an error in a stage: the record is latched and the stage stays. `t` is `s` with what earlier stages
committed. -/
def Raises (i : Instr) (s t : State) (stage : Stage) (kind : ErrKind) : Prop :=
  ∃ L, exec i s = .next { t with
    stage := stage, lat := L, fault := some { kind := kind, pc := s.pc, word := encode i, stage := stage } }

/-- R238: `i` ends in `t` with the pc at `next`, or raises `InvalidValue` for it from `u`. -/
def GoesTo (i : Instr) (s t u : State) (next : Word) : Prop :=
  (s.pcValid next → Completes i s { t with pc := next }) ∧
  (¬ s.pcValid next → Raises i s u .writeback (.invalidValue .pc next))

/-- R236, R238: `i` writes `v` to `x[rd]` (register 0 stores nothing) and ends in `t` with the pc at `next`. A stack pointer
refuses an invalid `v` first, then the pc an invalid `next`; `u` is the state either error is raised from. -/
def WritesFrom (i : Instr) (s t u : State) (rd : RegIx) (v next : Word) : Prop :=
  (s.xWritable rd v → s.pcValid next → Completes i s { t.setX rd v with pc := next }) ∧
  (¬ s.xWritable rd v → Raises i s u .writeback (.invalidValue (.x rd) v)) ∧
  (s.xWritable rd v → ¬ s.pcValid next → Raises i s u .writeback (.invalidValue .pc next))

/-- `i` writes `v` to `x[rd]`, advances the pc by 4 and does nothing else. -/
def Computes (i : Instr) (s : State) (rd : RegIx) (v : Word) : Prop := WritesFrom i s s s rd v (s.pc + 4)

/-- The `8n`-bit value an access of `n` bytes at `a` reads (R86). -/
def loadedBits (s : State) (a : Word) (n : Nat) : BitVec (8 * n) :=
  BitVec.ofNat (8 * n) (ofBytes s.cfg.byteOrder (s.mem.readBytes a.toNat n))

/-- R84, R85, R704: `i` loads `n` bytes at `a` into `x[rd]`, extended by `ext`, or raises `OutOfBounds`. -/
def Loads (i : Instr) (s : State) (rd : RegIx) (a : Word) (n : Nat) (ext : BitVec (8 * n) → Word) : Prop :=
  (s.inRange a n → Computes i s rd (ext (loadedBits s a n))) ∧
  (¬ s.inRange a n → Raises i s s .memory (.outOfBounds a n))

/-- R83: byte `k` of an `n`-byte access of value `v`. -/
def byteOf (order : ByteOrder) (n : Nat) (v : Word) (k : Nat) : Byte :=
  match order with
  | .big => v.extractLsb' (8 * (n - 1 - k)) 8
  | .little => v.extractLsb' (8 * k) 8

/-- The memory `m` is that of `s` with the `n` bytes at `a` those of `v`, and no other byte changed (R83, R87). -/
def StoredIn (s : State) (m : Memory) (a : Word) (n : Nat) (v : Word) : Prop :=
  (∀ k < n, m.read (a.toNat + k) = byteOf s.cfg.byteOrder n v k) ∧
  (∀ b, b < a.toNat ∨ a.toNat + n ≤ b → m.read b = s.mem.read b)

/-- R85, R87, R704: `i` stores the low `n` bytes of `v` at `a` and advances the pc by 4, or raises `OutOfBounds` and stores
nothing. `t` is `s` with what Execute committed. -/
def Stores (i : Instr) (s t : State) (a : Word) (n : Nat) (v : Word) : Prop :=
  (s.inRange a n → s.pcValid (s.pc + 4) →
    ∃ m, Completes i s { t with mem := m, pc := s.pc + 4 } ∧ StoredIn s m a n v) ∧
  (¬ s.inRange a n → Raises i s t .memory (.outOfBounds a n))

/-- R239, R45: `i` writes `v` to `f[fd]` at a width, advances the pc by 4 and does nothing else. -/
def ComputesFloat (i : Instr) (s : State) (w : FpWidth) (fd : RegIx) (v : Word) : Prop :=
  GoesTo i s (s.writeF w fd v) s (s.pc + 4)

/-- R13, R706: `i` does `P` in an instance that completes the coprocessor's operations, and in one that reports them raises
`UnimplementedFpuOp` in Execute. -/
def WhenCompleted (i : Instr) (s : State) (op : CopOp) (P : Prop) : Prop :=
  (s.cfg.fpuCompletion = .ieee → P) ∧
  (s.cfg.fpuCompletion = .report → Raises i s s .execute (.unimplementedFpuOp op))

/-! ## Values -/

/-- R641: the rational value of a finite encoding. -/
def fpRat (w : FpWidth) (v : Word) : Option ℚ :=
  match fpVal w v with
  | .fin neg units => some ((signedUnits neg units : ℚ) / 2 ^ w.unitExp)
  | .inf _ => none
  | .nan _ => none

/-- R641, R655, R671: the value of an encoding on the extended line: `⊥` and `⊤` are the infinities, a NaN has none. -/
def fpValue (w : FpWidth) (v : Word) : Option (WithBot (WithTop ℚ)) :=
  match fpVal w v with
  | .fin neg units => some (((signedUnits neg units : ℚ) / 2 ^ w.unitExp : ℚ) : WithTop ℚ)
  | .inf neg => some (if neg then ⊥ else ((⊤ : WithTop ℚ) : WithBot (WithTop ℚ)))
  | .nan _ => none

/-! ## Floating-point formats and rounding, in the words of R640 to R644 -/

/-- R640: the least exponent of a format. -/
def FpWidth.emin : FpWidth → Int
  | .word => -126
  | .double => -1022

/-- R640: the greatest exponent of a format. -/
def FpWidth.emax : FpWidth → Int
  | .word => 127
  | .double => 1023

/-- R640: the sign bit of an operand: `v[31]` or `v[63]`. -/
def signBit (w : FpWidth) (v : Word) : Bool :=
  match w with
  | .word => v.getLsbD 31
  | .double => v.getLsbD 63

/-- R660, R667: an operand with the sign bit of the selected width inverted. -/
def flipSign (w : FpWidth) (v : Word) : Word :=
  match w with
  | .word => v ^^^ 0x80000000
  | .double => v ^^^ 0x8000000000000000

/-- R641: at a width with `k` exponent bits, precision `p`, least exponent `emin` and a bias, `v` stands for what the sign
`neg`, the biased exponent `e` and the fraction `f` say. -/
def StandsFor (w : FpWidth) (v : Word) (neg : Bool) (e f k p : Nat) (emin bias : Int) : Prop :=
  (e = 0 → f = 0 → fpVal w v = .fin neg 0) ∧
  (e = 0 → f ≠ 0 → fpRat w v = some ((if neg then -1 else 1) * f * (2 : ℚ) ^ (emin - p + 1))) ∧
  (0 < e → e < 2 ^ k - 1 → fpRat w v =
    some ((if neg then -1 else 1) * (2 ^ (p - 1) + f) * (2 : ℚ) ^ (e - bias - p + 1))) ∧
  (e = 2 ^ k - 1 → f = 0 → fpVal w v = .inf neg) ∧
  (e = 2 ^ k - 1 → f ≠ 0 → fpVal w v = .nan (f.testBit (p - 2)))

/-- R643: a result `v` stands for `x`, and a word-width one is zero-extended to 64 bits. -/
def IsVal (w : FpWidth) (v : Word) (x : FpVal) : Prop :=
  fpVal w v = x ∧ (w = .word → v.toNat < 2 ^ 32)

/-- R641, R643: a result `v` is the encoding of the real `y`. -/
def Encodes (w : FpWidth) (v : Word) (y : ℝ) : Prop :=
  ∃ q : ℚ, fpRat w v = some q ∧ (q : ℝ) = y ∧ (w = .word → v.toNat < 2 ^ 32)

/-- R644: `y` is `±m * 2^(e-p+1)` with an integer `0 <= m < 2^p` and an integer `e >= emin`. -/
def IsScaled (w : FpWidth) (m : Nat) (y : ℝ) : Prop :=
  m < 2 ^ w.precision ∧ ∃ e : Int, w.emin ≤ e ∧ |y| = m * (2 : ℝ) ^ (e - w.precision + 1)

/-- R644: the set `F*`, of precision `p` and of unbounded exponent. -/
def FStar (w : FpWidth) (y : ℝ) : Prop := ∃ m, IsScaled w m y

/-- R644: the neighbour a rounding mode chooses of `lo` and `hi`, for the exact value `r`: `y` is one of the two; the nearer
(`RNE`, `RMM`; on a tie the one whose `m` is even, or the one of larger magnitude), the one of smaller magnitude (`RTZ`),
`lo` (`RDN`) or `hi` (`RUP`). -/
def Chooses (w : FpWidth) (rm : Round) (lo r hi y : ℝ) : Prop :=
  (y = lo ∨ y = hi) ∧
  match rm with
  | .rne => |y - r| ≤ |lo - r| ∧ |y - r| ≤ |hi - r| ∧ (|lo - r| = |hi - r| → lo ≠ hi → ∃ m, IsScaled w m y ∧ m % 2 = 0)
  | .rtz => |y| ≤ |lo| ∧ |y| ≤ |hi|
  | .rdn => y = lo
  | .rup => y = hi
  | .rmm => |y - r| ≤ |lo - r| ∧ |y - r| ≤ |hi - r| ∧ (|lo - r| = |hi - r| → |lo| ≤ |y| ∧ |hi| ≤ |y|)

/-- R644: `y` is the number of `F*` that the nonzero exact value `r` rounds to, before overflow. -/
def RoundsTo (w : FpWidth) (rm : Round) (r y : ℝ) : Prop :=
  ∃ lo hi, IsGreatest {z | FStar w z ∧ z ≤ r} lo ∧ IsLeast {z | FStar w z ∧ r ≤ z} hi ∧ Chooses w rm lo r hi y

/-- R644: `MAXFIN`. -/
def IsMaxFin (w : FpWidth) (M : ℝ) : Prop := M = (2 ^ w.precision - 1) * (2 : ℝ) ^ (w.emax - w.precision + 1)

/-- R644: the result `v` of an overflow in a mode, for an exact value of a sign. -/
def Overflows (w : FpWidth) (rm : Round) (neg : Bool) (M : ℝ) (v : Word) : Prop :=
  match rm, neg with
  | .rne, _ => IsVal w v (.inf neg)
  | .rmm, _ => IsVal w v (.inf neg)
  | .rtz, false => Encodes w v M
  | .rtz, true => Encodes w v (-M)
  | .rdn, false => Encodes w v M
  | .rdn, true => IsVal w v (.inf true)
  | .rup, false => IsVal w v (.inf false)
  | .rup, true => Encodes w v (-M)

/-- R644: `v` is `round(w, rm, r)` for a nonzero exact real `r`: of the number `y` of `F*` that `r` rounds to, the overflow's
result above `MAXFIN`, the zero of `r`'s sign at zero, and the encoding of `y` otherwise. -/
def Rounds (w : FpWidth) (rm : Round) (r : ℝ) (v : Word) : Prop :=
  ∃ y, RoundsTo w rm r y ∧ ∀ M, IsMaxFin w M → ∀ neg : Bool, (neg = true ↔ r < 0) →
    (M < |y| → Overflows w rm neg M v) ∧
    (y = 0 → IsVal w v (.fin neg 0)) ∧
    (|y| ≤ M → y ≠ 0 → Encodes w v y)

/-! ## Ticks -/

/-- Four ticks at most, until the machine is back at Decode or stopped (R210, R211). -/
def ticks : Nat → State → Host.Outcome State Fault Refusal
  | 0, s => .next s
  | n + 1, s =>
    match tick s with
    | .next t => if t.stopped ∨ t.stage = .decode then .next t else ticks n t
    | .fault f => .fault f
    | .refused r => .refused r

/-! ## Kinds of instructions -/

/-- R47: the instructions that write the condition code: the comparisons. -/
def isComparison : Instr → Bool
  | .mipsCEqS .. | .mipsCEqD .. | .mipsCLtS .. | .mipsCLtD .. | .mipsCLeS .. | .mipsCLeD .. => true
  | .rvFeqS .. | .rvFeqD .. | .rvFltS .. | .rvFltD .. | .rvFleS .. | .rvFleD .. => true
  | _ => false

/-- The instructions that store to memory. -/
def isStore : Instr → Bool
  | .mipsSb .. | .mipsSh .. | .mipsSw .. | .mipsSd .. | .mipsSwc1 .. | .mipsSdc1 .. => true
  | .rvSb .. | .rvSh .. | .rvSw .. | .rvSd .. | .rvFsw .. | .rvFsd .. => true
  | _ => false

/-- R715: the halting instructions. -/
def isHalting : Instr → Bool
  | .mipsSyscall .. => true
  | .rvEcall .. => true
  | _ => false

end Sys2Proof.Machine
end

