-- ==== Sys2Proof/Certificates/Slice0/Obligations.lean ====
section
/-! DEFINITION. The statements for the provers, in the words of Sys2Proof/Safety.lean. -/

open Sys2Proof Sys2Proof.Machine

/-- O1. Words of the spec's examples decode to the instructions they are written as. Eight words that the spec prints beside an assembler text (add r3,r1,r2; lw r2,4(r1); add.s f6,f4,f5; j 0x40; add x5,x6,x7; slli x5,x6,63; sb x7,-8(x6); fmadd.s f6,f4,f5,f7) decode to that instruction with those operands. -/
def Obligations.DecodeSpecWords : Prop :=
  decode .mips64l 0x00221820 = .instr (.mipsAdd 1 2 3 0) ∧
  decode .mips64l 0x8C220004 = .instr (.mipsLw 1 2 4) ∧
  decode .mips64l 0x46052180 = .instr (.mipsAddS 5 4 6) ∧
  decode .mips64l 0x08000010 = .instr (.mipsJ 0x10) ∧
  decode .rv64l 0x007302B3 = .instr (.rvAdd 7 6 5) ∧
  decode .rv64l 0x03F31293 = .instr (.rvSlli 63 6 5) ∧
  decode .rv64l 0xFE730C23 = .instr (.rvSb 0b1111111 7 6 0b11000) ∧
  decode .rv64l 0x38520343 = .instr (.rvFmaddS 7 5 4 0 6)

/-- O2. Every well-formed MIPS64L instruction is what its own word decodes to. For every MIPS64L instruction with every operand at every value its encoding admits, decoding its encoding gives it back. -/
def Obligations.MipsDecodeOfEncode : Prop :=
  ∀ i : Instr, i.isa = .mips64l → i.wf = true → decode .mips64l (encode i) = .instr i

/-- O3. Every well-formed RV64L instruction is what its own word decodes to. For every RV64L instruction with every operand at every value its encoding admits (a rounded one with one of the six rounding modes), decoding its encoding gives it back. -/
def Obligations.RvDecodeOfEncode : Prop :=
  ∀ i : Instr, i.isa = .rv64l → i.wf = true → decode .rv64l (encode i) = .instr i

/-- O4. A word that decodes to an instruction is that instruction's word, so no bit of it is dropped. In either set, if a word decodes to an instruction then the instruction is of that set, is well-formed, and encodes to exactly that word. -/
def Obligations.EncodeOfDecode : Prop :=
  ∀ (isa : Isa) (w : Word32) (i : Instr), decode isa w = .instr i → encode i = w ∧ i.isa = isa ∧ i.wf = true

/-- O5. The decoded record holds every bit of the word, in either set. If the primary decode of a word gives a record, the fields of the record put back in their places are the word. -/
def Obligations.RecordHoldsEveryBit : Prop :=
  ∀ (isa : Isa) (w : Word32) (r : Record), decodeRecord isa w = some r → r.word = w

/-- O6. A step runs the instruction the word at pc decodes to. At a state ready to begin an instruction, with the pc before the end of the program and the fetch giving a word that decodes to an instruction, the step is that instruction's meaning at that state. -/
def Obligations.StepRunsDecoded : Prop :=
  ∀ (s : State) (w : Word32) (i : Instr), s.ready → s.pc ≠ s.progEnd → fetchWord s = some w →
    decode s.cfg.isa w = .instr i → step s = exec i s

/-- O7. A Decode tick latches the word, its decoding, its control vectors and its operands, and changes nothing else. At a state ready to begin an instruction, with the fetched word an instruction or an inert word, the tick moves to Execute, writes the ten latches of the Decode stage and changes no other latch and no other state element: the word, the record, both control vectors (the inert ones for an inert word), the general registers its fields name (0 where its format has no such field), the forwarded value, and the floating-point registers of its slots (the third reads 0 in MIPS64L). -/
def Obligations.DecodeTickLatches : Prop :=
  ∀ (s : State) (w : Word32) (r : Record) (v : Vectors), s.ready → s.pc ≠ s.progEnd → fetchWord s = some w →
    ((∃ i, decode s.cfg.isa w = .instr i ∧ r = i.record ∧ v = vectors i) ∨
      (decode s.cfg.isa w = .inert r ∧ v = { cs := cs0, fs := fs0 })) →
    (s.cfg.isa = .mips64l →
      let rs1 := match r with | .mipsJ _ _ => 0 | _ => s.readX (w.extractLsb' 21 5)
      let rs2 := match r with | .mipsJ _ _ => 0 | _ => s.readX (w.extractLsb' 16 5)
      tick s = .next { s with
        stage := .execute
        lat := { s.lat with
          ir := w, instr := some r, cs := v.cs, fs := v.fs, rs1Val := rs1, rs2Val := rs2, gpFwd := rs2
          fpA := s.readF (w.extractLsb' 11 5), fpB := s.readF (w.extractLsb' 16 5), fpC := 0 } }) ∧
    (s.cfg.isa = .rv64l →
      let rs1 := match r with | .rvU _ _ _ => 0 | .rvJ _ _ _ => 0 | _ => s.readX (w.extractLsb' 15 5)
      let rs2 := match r with | .rvI .. => 0 | .rvU _ _ _ => 0 | .rvJ _ _ _ => 0 | _ => s.readX (w.extractLsb' 20 5)
      tick s = .next { s with
        stage := .execute
        lat := { s.lat with
          ir := w, instr := some r, cs := v.cs, fs := v.fs, rs1Val := rs1, rs2Val := rs2, gpFwd := rs1
          fpA := s.readF (w.extractLsb' 15 5), fpB := s.readF (w.extractLsb' 20 5)
          fpC := s.readF (w.extractLsb' 27 5) } })

/-- O8. What an Execute tick writes, or the error it raises. At Execute of a running machine: where the instance reports operations, one other than FpuNone and FAdd, else a comparison other than CmpNone and CmpEq, is an UnimplementedFpuOp that writes nothing but the record. Otherwise the tick moves to Memory and writes the twelve latches of the Execute stage (immediate, ALU operands, result and zero flag, branch and jump target, the three branch decisions, the results of the coprocessor) and, where the vector says so, data, and changes nothing else. What the functions it names compute is said by the statements about the ALU and about the floating-point functions. -/
def Obligations.ExecuteTick : Prop :=
  ∀ s : State, s.cfg.wf → ¬ s.stopped → s.stage = .execute →
    let cs := s.lat.cs
    let fs := s.lat.fs
    let ir := s.lat.ir
    let undefinedOp := s.cfg.fpuCompletion = .report ∧ fs.fpuOp ∉ [FpuOp.fpuNone, FpuOp.fAdd]
    let undefinedCmp := s.cfg.fpuCompletion = .report ∧ fs.cmpOp ∉ [CmpOp.cmpNone, CmpOp.cmpEq]
    let failed (op : CopOp) : State := { s with
      fault := some { kind := .unimplementedFpuOp op, pc := s.pc, word := ir, stage := .execute } }
    (undefinedOp → tick s = .next (failed (.fpu fs.fpuOp))) ∧
    (¬ undefinedOp → undefinedCmp → tick s = .next (failed (.cmp fs.cmpOp))) ∧
    (¬ undefinedOp → ¬ undefinedCmp →
      let a := s.lat.fpA
      let b := s.lat.fpB
      let c := s.lat.fpC
      let w := fs.width
      let m := fs.round
      ∃ (d : Word) (L : Latches),
        tick s = .next { s with
          stage := .memory
          data := d
          lat := { s.lat with
            imm := L.imm, op1 := L.op1, op2 := L.op2, aluResult := L.aluResult, zero := L.zero
            branchTarget := L.branchTarget, jumpTarget := L.jumpTarget, mainTaken := L.mainTaken, fpuTaken := L.fpuTaken
            taken := L.taken, fpuResult := L.fpuResult, cmpResult := L.cmpResult } } ∧
        L.imm = (
          match s.cfg.isa, s.lat.cs.immForm with
          | .mips64l, .iUnsigned => (ir.extractLsb' 0 16).setWidth 64
          | .mips64l, .upper => (ir.extractLsb' 0 16 ++ 0#16).signExtend 64
          | .mips64l, _ => (ir.extractLsb' 0 16).signExtend 64
          | .rv64l, .iSigned => (ir.extractLsb' 20 12).signExtend 64
          | .rv64l, .iUnsigned => (ir.extractLsb' 20 12).setWidth 64
          | .rv64l, .upper => (ir.extractLsb' 12 20 ++ 0#12).signExtend 64
          | .rv64l, .s => (ir.extractLsb' 25 7 ++ ir.extractLsb' 7 5).signExtend 64
          | .rv64l, .b =>
            (ir.extractLsb' 31 1 ++ ir.extractLsb' 7 1 ++ ir.extractLsb' 25 6 ++ ir.extractLsb' 8 4 ++ 0#1).signExtend 64
          | .rv64l, .j =>
            (ir.extractLsb' 31 1 ++ ir.extractLsb' 12 8 ++ ir.extractLsb' 20 1 ++ ir.extractLsb' 21 10 ++ 0#1).signExtend 64) ∧
        L.op1 = (match cs.op1Src with | .rs1 => s.lat.rs1Val | .rs2 => s.lat.rs2Val | .pc => s.pc | .pcPlus4 => s.pc + 4) ∧
        L.op2 = (match cs.op2Src with | .rs2 => s.lat.rs2Val | .imm => L.imm) ∧
        L.aluResult = alu cs.aluOp L.op1 L.op2 ∧
        (L.zero = true ↔ L.aluResult = 0) ∧
        L.branchTarget = (match s.cfg.isa with | .mips64l => s.pc + 4 + L.imm * 4 | .rv64l => s.pc + L.imm) ∧
        L.jumpTarget = (
          match cs.jump with
          | .noJump => 0
          | .jRegion => (s.pc + 4).extractLsb' 28 36 ++ ir.extractLsb' 0 26 ++ 0#2
          | .jReg => s.lat.rs1Val
          | .jAlu => L.aluResult
          | .jAluClr0 => L.aluResult &&& ~~~1#64) ∧
        (L.mainTaken = true ↔
          cs.branch ∈ [.beq, .bge, .bgeu] ∧ L.aluResult = 0 ∨ cs.branch ∈ [.bne, .blt, .bltu] ∧ L.aluResult ≠ 0) ∧
        (L.fpuTaken = true ↔ fs.fpuBranch = .onTrue ∧ s.cc = true ∨ fs.fpuBranch = .onFalse ∧ s.cc = false) ∧
        (L.taken = true ↔ L.mainTaken = true ∨ L.fpuTaken = true) ∧
        L.fpuResult = (
          match fs.fpuOp with
          | .fpuNone => 0 | .fAdd => fpAdd w m a b | .fSub => fpSub w m a b | .fMul => fpMul w m a b
          | .fDiv => fpDiv w m a b | .fSqrt => fpSqrt w m a | .fMin => fpMin w a b | .fMax => fpMax w a b
          | .fSgnj => fpSgnj w a b | .fSgnjn => fpSgnjn w a b | .fSgnjx => fpSgnjx w a b | .fClass => fpClass w a
          | .fMadd => fpMadd w m a b c | .fMsub => fpMsub w m a b c | .fNmsub => fpNmsub w m a b c
          | .fNmadd => fpNmadd w m a b c) ∧
        L.cmpResult = (
          match fs.cmpOp with
          | .cmpNone => false | .cmpEq => fpEq w a b | .cmpLt => fpLt w a b | .cmpLe => fpLe w a b) ∧
        d = (
          if fs.dataWrite then
            match fs.dataSrc with
            | .mainReg => s.lat.gpFwd | .fpA => a | .fpB => b | .cmpResult => if L.cmpResult then 1 else 0
            | .fpuResult => L.fpuResult | .memData => s.data
          else s.data))

/-- O9. What a Memory tick writes, or the error it raises. At Memory of a running machine, the address is the first operand plus the immediate. A load, else a store, out of range is an OutOfBounds with that address and the width and writes nothing but the record. Otherwise the tick moves to Writeback, latches the address and the loaded value extended as the vector says (0 with no load), stores the bytes of rs2_val or of data where the vector stores, writes the loaded value to data where the vector loads for the coprocessor, and changes nothing else. -/
def Obligations.MemoryTick : Prop :=
  ∀ s : State, s.cfg.wf → ¬ s.stopped → s.stage = .memory →
    let a := s.lat.op1 + s.lat.imm
    let loads := s.lat.cs.memRead ≠ .noRead
    let n := match s.lat.cs.memRead with | .noRead => 0 | .b => 1 | .bu => 1 | .h => 2 | .hu => 2 | .w => 4 | .wu => 4 | .d => 8
    let stores := s.lat.cs.memWrite ≠ .noWrite
    let k := match s.lat.cs.memWrite with | .noWrite => 0 | .b => 1 | .h => 2 | .w => 4 | .d => 8
    let failed (width : Nat) : State := { s with
      fault := some { kind := .outOfBounds a width, pc := s.pc, word := s.lat.ir, stage := .memory } }
    (loads → ¬ s.inRange a n → tick s = .next (failed n)) ∧
    ((loads → s.inRange a n) → stores → ¬ s.inRange a k → tick s = .next (failed k)) ∧
    ((loads → s.inRange a n) → (stores → s.inRange a k) →
      let loaded : Word :=
        match s.lat.cs.memRead with
        | .noRead => 0
        | .b => (loadedBits s a 1).signExtend 64 | .bu => (loadedBits s a 1).setWidth 64
        | .h => (loadedBits s a 2).signExtend 64 | .hu => (loadedBits s a 2).setWidth 64
        | .w => (loadedBits s a 4).signExtend 64 | .wu => (loadedBits s a 4).setWidth 64
        | .d => (loadedBits s a 8).setWidth 64
      let v := match s.lat.cs.memWriteSrc with | .mainUnit => s.lat.rs2Val | .copData => s.data
      ∃ m, tick s = .next { s with
          stage := .writeback
          mem := m
          data := if loads ∧ s.lat.fs.dataWrite = true ∧ s.lat.fs.dataSrc = .memData then loaded else s.data
          lat := { s.lat with memAddr := a, memData := loaded } } ∧
        (¬ stores → m = s.mem) ∧ (stores → StoredIn s m a k v))

/-- O10. What a Writeback tick writes, or the error it raises. At Writeback of a running machine: a general register write that the stack pointer refuses is an InvalidValue of that register, else a next pc that is not valid an InvalidValue of the pc, and either writes nothing but the record. Otherwise the tick moves to Decode and commits the general register write with its two latches, the floating-point register write, the condition code, the pc and the halt, each where the vectors say so, and changes nothing else. -/
def Obligations.WritebackTick : Prop :=
  ∀ s : State, s.cfg.wf → ¬ s.stopped → s.stage = .writeback →
    let cs := s.lat.cs
    let fs := s.lat.fs
    let ir := s.lat.ir
    let rd : RegIx :=
      match s.cfg.isa, cs.regDst with
      | .mips64l, .rs1Slot => ir.extractLsb' 21 5 | .mips64l, .rs2Slot => ir.extractLsb' 16 5
      | .mips64l, .rdSlot => ir.extractLsb' 11 5
      | .rv64l, .rs1Slot => ir.extractLsb' 15 5 | .rv64l, .rs2Slot => ir.extractLsb' 20 5
      | .rv64l, .rdSlot => ir.extractLsb' 7 5
      | _, .link => 31
    let v : Word :=
      if fs.dataWrite then match fs.width with | .word => (s.data.setWidth 32).signExtend 64 | .double => s.data
      else match cs.wbSrc with | .alu => s.lat.aluResult | .mem => s.lat.memData | .imm => s.lat.imm | .pcPlus4 => s.pc + 4
    let fd : RegIx :=
      match s.cfg.isa, fs.fpuRegDst with
      | .mips64l, .fdSlot => ir.extractLsb' 6 5 | .mips64l, .fsSlot => ir.extractLsb' 11 5
      | .mips64l, .ftSlot => ir.extractLsb' 16 5
      | .rv64l, .fdSlot => ir.extractLsb' 7 5 | .rv64l, .fsSlot => ir.extractLsb' 15 5
      | .rv64l, .ftSlot => ir.extractLsb' 20 5
    let fv := match fs.fpuWbSrc with | .fromFpuAlu => s.lat.fpuResult | .fromData => s.data
    let fstored : Word := match fs.width with | .word => (fv.setWidth 32).setWidth 64 | .double => fv
    let next :=
      if cs.jump ≠ .noJump then s.lat.jumpTarget else if s.lat.taken then s.lat.branchTarget else s.pc + 4
    let failed (kind : ErrKind) : State := { s with
      fault := some { kind := kind, pc := s.pc, word := ir, stage := .writeback } }
    (cs.regWrite = true → ¬ s.xWritable rd v → tick s = .next (failed (.invalidValue (.x rd) v))) ∧
    ((cs.regWrite = true → s.xWritable rd v) → ¬ s.pcValid next → tick s = .next (failed (.invalidValue .pc next))) ∧
    ((cs.regWrite = true → s.xWritable rd v) → s.pcValid next →
      ∃ t, tick s = .next { t with
          f := if fs.fpuRegWrite then (s.setF fd fstored).f else s.f
          cc := if fs.ccWrite then s.lat.cmpResult else s.cc
          pc := next
          run := if cs.halt then .halted else s.run
          stage := .decode } ∧
        (cs.regWrite = true → t = { s.setX rd v with lat := { s.lat with wbIndex := rd, wbData := v } }) ∧
        (cs.regWrite = false → t = s))

/-- O11. The primary opcodes of the two sets, the record each gives, and that every other one is unsupported. In MIPS64L the 31 listed values of the high six bits give the record of their format with the fields of the word (COP1 the I format where bits 25 to 21 are 01000 and the R format otherwise), and a word of any other value is unsupported; in RV64L the same for the 19 listed values of the low seven bits. That a six-bit opcode is kept zero-extended in a seven-bit payload is the model's choice (log entry 7); that an unsupported word raises is UnsupportedOpcodeRaised. -/
def Obligations.PrimaryOpcodeTables : Prop :=
  ∀ w : Word32,
    (let op := w.extractLsb' 26 6
     let known := decodeRecord .mips64l w = some (
       if op = 0b000000 ∨ op = 0b010001 ∧ w.extractLsb' 21 5 ≠ 0b01000 then
         .mipsR op (w.extractLsb' 21 5) (w.extractLsb' 16 5) (w.extractLsb' 11 5) (w.extractLsb' 6 5) (w.extractLsb' 0 6)
       else if op = 0b000010 ∨ op = 0b000011 then .mipsJ op (w.extractLsb' 0 26)
       else .mipsI op (w.extractLsb' 21 5) (w.extractLsb' 16 5) (w.extractLsb' 0 16))
     let listed := op ∈ [0b000000#6, 0b000010#6, 0b000011#6, 0b000100#6, 0b000101#6, 0b001000#6, 0b001001#6, 0b001010#6,
       0b001011#6, 0b001100#6, 0b001101#6, 0b001110#6, 0b001111#6, 0b010001#6, 0b011000#6, 0b011001#6, 0b100000#6,
       0b100001#6, 0b100011#6, 0b100100#6, 0b100101#6, 0b100111#6, 0b101000#6, 0b101001#6, 0b101011#6, 0b110001#6,
       0b110101#6, 0b110111#6, 0b111001#6, 0b111101#6, 0b111111#6]
     (listed → known ∧ ∀ x, decode .mips64l w ≠ .unsupported x) ∧
     (¬ listed → decodeRecord .mips64l w = none ∧ decode .mips64l w = .unsupported (op.setWidth 7))) ∧
    (let op := w.extractLsb' 0 7
     let f7 := w.extractLsb' 25 7
     let f2 := w.extractLsb' 20 5
     let f1 := w.extractLsb' 15 5
     let f3 := w.extractLsb' 12 3
     let fd := w.extractLsb' 7 5
     let known (r : Record) := decodeRecord .rv64l w = some r ∧ ∀ x, decode .rv64l w ≠ .unsupported x
     let iOps := [0b0000011#7, 0b0000111#7, 0b0010011#7, 0b0011011#7, 0b1100111#7, 0b1110011#7]
     let uOps := [0b0010111#7, 0b0110111#7]
     let sOps := [0b0100011#7, 0b0100111#7]
     let rOps := [0b0110011#7, 0b0111011#7, 0b1010011#7]
     let r4Ops := [0b1000011#7, 0b1000111#7, 0b1001011#7, 0b1001111#7]
     (op ∈ iOps → known (.rvI (w.extractLsb' 20 12) f1 f3 fd op)) ∧
     (op ∈ uOps → known (.rvU (w.extractLsb' 12 20) fd op)) ∧
     (op ∈ sOps → known (.rvS f7 f2 f1 f3 fd op)) ∧
     (op ∈ rOps → known (.rvR f7 f2 f1 f3 fd op)) ∧
     (op ∈ r4Ops → known (.rvR4 (w.extractLsb' 27 5) (w.extractLsb' 25 2) f2 f1 f3 fd op)) ∧
     (op = 0b1100011 → known (.rvB f7 f2 f1 f3 fd op)) ∧
     (op = 0b1101111 → known (.rvJ (w.extractLsb' 12 20) fd op)) ∧
     (op ∉ iOps ++ uOps ++ sOps ++ rOps ++ r4Ops ++ [0b1100011#7, 0b1101111#7] →
       decodeRecord .rv64l w = none ∧ decode .rv64l w = .unsupported op))

/-- O12. A word of a known primary opcode that matches no instruction only advances the pc by 4. At a state ready to begin an instruction, a fetched word whose primary opcode is known and whose secondary fields match nothing ends with pc + 4 and every other state element but the latches as it was. -/
def Obligations.InertWordOnlyAdvances : Prop :=
  ∀ (s : State) (w : Word32) (r : Record), s.ready → s.pc ≠ s.progEnd → fetchWord s = some w →
    decode s.cfg.isa w = .inert r → s.pcValid (s.pc + 4) → ∃ L, step s = .next { s with pc := s.pc + 4, lat := L }

/-- O13. A word of an unknown primary opcode raises UnsupportedOpcode in Decode and changes nothing else. At a state ready to begin an instruction, a fetched word of an unknown primary opcode leaves the state as it was but for the recorded error, which names the opcode, the pc, the word and the Decode stage. That a six-bit opcode stands in the low bits of a seven-bit payload is the model's choice (log entry 7). -/
def Obligations.UnsupportedOpcodeRaised : Prop :=
  ∀ (s : State) (w : Word32) (op : BitVec 7), s.ready → s.pc ≠ s.progEnd → fetchWord s = some w →
    decode s.cfg.isa w = .unsupported op →
    op = primaryOpcode s.cfg.isa w ∧
      step s = .next { s with fault := some { kind := .unsupportedOpcode op, pc := s.pc, word := w, stage := .decode } }

/-- O14. A machine that was reset but not loaded executes no instruction and reports Ok(Halted). In every legal instance, the first step from reset halts, changes nothing else and reports Ok(Halted), and so does the first tick. -/
def Obligations.UnloadedMachineHalts : Prop :=
  ∀ cfg : Config, cfg.wf →
    (State.resetWith cfg).progEnd = 0 ∧ (State.resetWith cfg).pc = 0 ∧
    step (State.resetWith cfg) = .next { State.resetWith cfg with run := .halted } ∧
    tick (State.resetWith cfg) = .next { State.resetWith cfg with run := .halted } ∧
    stepResult { State.resetWith cfg with run := .halted } = .halted

/-- O15. What reset leaves in every state element. After reset every general and floating-point register reads 0, pc, prog_end, cc and data are 0, every byte of memory is 0, the machine is Running at Decode with no error, the control latches are the inert vectors, instr is the decoding of nothing, each of the other 23 latches is 0, and the parameters stay, whatever they are. The zeros of the entries that 10_state.md R60 marks (any) are the values of its table, which the model takes, and none for the decoding of nothing is the model's choice (log entry 3). -/
def Obligations.ResetState : Prop :=
  ∀ (cfg : Config) (i : RegIx) (a : Nat), let s := State.resetWith cfg
    s.readX i = 0 ∧ s.readF i = 0 ∧ s.pc = 0 ∧ s.progEnd = 0 ∧ s.cc = false ∧ s.data = 0 ∧ s.mem.read a = 0 ∧
    s.run = .running ∧ s.stage = .decode ∧ s.fault = none ∧ s.cfg = cfg ∧ s.lat = {
      ir := 0, instr := none, cs := cs0, fs := fs0, rs1Val := 0, rs2Val := 0, gpFwd := 0, fpA := 0, fpB := 0, fpC := 0
      imm := 0, op1 := 0, op2 := 0, aluResult := 0, zero := false, branchTarget := 0, jumpTarget := 0, mainTaken := false
      fpuTaken := false, taken := false, fpuResult := 0, cmpResult := false, memAddr := 0, memData := 0, wbIndex := 0
      wbData := 0 }

/-- O16. A step is the ticks until the machine is back at Decode, raises or halts: at most four. For every legal instance and every state at Decode, the step answers exactly what ticking answers when it goes on until the stage is Decode again, an error is recorded or the machine is halted, for at most four ticks. -/
def Obligations.StepIsFourTicks : Prop :=
  ∀ s : State, s.cfg.wf → s.stage = .decode → step s = ticks 4 s

/-- O17. The state after reset has the invariant. In every legal instance the state after reset has the invariant that every step keeps; the instance State.reset describes (the model's choice, log entry 2) is legal. -/
def Obligations.ResetHasInvariant : Prop :=
  (∀ cfg : Config, cfg.wf → (State.resetWith cfg).Inv) ∧ State.reset.Inv

/-- O18. An instruction that raises an error has changed nothing but the error record, data and the latches. If a step from a good state that is ready to begin an instruction records an error, then every general and floating-point register, pc, prog_end, cc, memory and run are as they were, and the record holds the pc and the stage that raised it. -/
def Obligations.ErrorIsPrecise : Prop :=
  ∀ (s t : State) (e : ExecError), s.Inv → s.ready → step s = .next t → t.fault = some e →
    t = { s with data := t.data, stage := t.stage, fault := some e, lat := t.lat } ∧ e.pc = s.pc ∧ e.stage = t.stage

/-- O19. Only the comparisons write the condition code, and only the stores write memory. An instruction that is none of the twelve comparisons leaves the condition code as it was, and one that is none of the twelve stores leaves every byte of memory as it was, in whatever state it runs. -/
def Obligations.WritersOfCcAndMemory : Prop :=
  ∀ (i : Instr) (s t : State), exec i s = .next t →
    (isComparison i = false → t.cc = s.cc) ∧ (isStore i = false → ∀ a, t.mem.read a = s.mem.read a)

/-- O20. With an error recorded, or halted, a tick and a step change nothing and report it again. With a recorded error a tick and a step change nothing and return that error; halted with no recorded error they change nothing and return Ok(Halted). A state that is both halted and faulted, which no run reaches, falls under the first sentence. -/
def Obligations.StoppedChangesNothing : Prop :=
  ∀ s : State, s.cfg.wf →
    (∀ e, s.fault = some e → tick s = .next s ∧ step s = .next s ∧ stepResult s = .err e) ∧
    (s.run = .halted → s.fault = none → tick s = .next s ∧ step s = .next s ∧ stepResult s = .halted)

/-- O21. Every step from a good state answers a good state: parameters, memory, pc and stack pointer. If a state has legal parameters, a canonical memory within the capacity, a program end that is a multiple of 4 within it, a valid pc and a valid stack pointer, then the step answers a next state, never a fault or a refusal, and that state has all of this again, with the parameters and the program end unchanged. The state may be in the middle of an instruction: that a step which begins there performs the ticks that remain is the model's choice (log entry 6, DEDUCED), which R211 does not give. -/
def Obligations.StepKeepsInvariant : Prop :=
  ∀ s : State, s.Inv → ∃ t, step s = .next t ∧ t.Inv ∧ t.cfg = s.cfg ∧ t.progEnd = s.progEnd

/-- O22. The machine halts at the end of the program and at the two halting instructions, and nowhere else. At a state ready to begin an instruction: with the pc at the end of the program the step halts the machine and changes nothing else; with a valid pc before the end, where the fetched word decodes to syscall or ecall, the step advances the pc by 4, halts the machine and changes nothing else but the latches; and if the state after a step is halted, then the pc was at the end of the program, or the word at pc decodes to syscall or ecall. -/
def Obligations.HaltConditions : Prop :=
  ∀ s : State, s.ready →
    (s.pc = s.progEnd → step s = .next { s with run := .halted }) ∧
    (∀ w i, s.pcOk → s.pc ≠ s.progEnd → fetchWord s = some w → decode s.cfg.isa w = .instr i → isHalting i = true →
      ∃ L, step s = .next { s with pc := s.pc + 4, run := .halted, lat := L }) ∧
    (∀ t, step s = .next t → t.run = .halted →
      s.pc = s.progEnd ∨ ∃ w i, fetchWord s = some w ∧ decode s.cfg.isa w = .instr i ∧ isHalting i = true)

/-- O23. The bitwise and comparing operations of the ALU. And, Or, Xor and Nor are the bitwise operations on all 64 bits; Slt is 1 or 0 by the signed comparison, Sltu by the unsigned one. -/
def Obligations.AluLogic : Prop :=
  ∀ a b : Word, alu .and a b = a &&& b ∧ alu .or a b = a ||| b ∧ alu .xor a b = a ^^^ b ∧ alu .nor a b = ~~~(a ||| b) ∧
    alu .slt a b = (if a.toInt < b.toInt then 1 else 0) ∧ alu .sltu a b = (if a.toNat < b.toNat then 1 else 0)

/-- O24. The shifts of the ALU. The six shifts by an inline amount are multiplication by, and division rounded down by, a power of two, the word forms on the low 32 bits with the result sign-extended; a shift by 0 returns the operand or its sign-extended low half; the second operand is ignored. The six shifts by a register are those by its low six bits, in the word forms its low five. -/
def Obligations.AluShifts : Prop :=
  ∀ (a b : Word) (n : BitVec 6) (k : BitVec 5),
    (alu (.sll64 n) a b).toNat = (a.toNat * 2 ^ n.toNat) % 2 ^ 64 ∧
    (alu (.srl64 n) a b).toNat = a.toNat / 2 ^ n.toNat ∧
    (alu (.sra64 n) a b).toInt = a.toInt / 2 ^ n.toNat ∧
    alu (.sll32 k) a b = (BitVec.ofNat 32 ((a.setWidth 32).toNat * 2 ^ k.toNat)).signExtend 64 ∧
    alu (.srl32 k) a b = (BitVec.ofNat 32 ((a.setWidth 32).toNat / 2 ^ k.toNat)).signExtend 64 ∧
    alu (.sra32 k) a b = (BitVec.ofInt 32 ((a.setWidth 32).toInt / 2 ^ k.toNat)).signExtend 64 ∧
    alu (.sll64 0) a b = a ∧ alu (.srl64 0) a b = a ∧ alu (.sra64 0) a b = a ∧
    alu (.sll32 0) a b = sext32 a ∧ alu (.srl32 0) a b = sext32 a ∧ alu (.sra32 0) a b = sext32 a ∧
    alu .sllV64 a b = alu (.sll64 (b.extractLsb' 0 6)) a b ∧ alu .srlV64 a b = alu (.srl64 (b.extractLsb' 0 6)) a b ∧
    alu .sraV64 a b = alu (.sra64 (b.extractLsb' 0 6)) a b ∧ alu .sllV32 a b = alu (.sll32 (b.extractLsb' 0 5)) a b ∧
    alu .srlV32 a b = alu (.srl32 (b.extractLsb' 0 5)) a b ∧ alu .sraV32 a b = alu (.sra32 (b.extractLsb' 0 5)) a b

/-- O25. The additions, subtractions and multiplications of the ALU. Sums and differences are exact modulo 2^64, the word forms modulo 2^32 and sign-extended; each multiplication is a slice of the exact product of its operands, signed or unsigned as the operation says, the word forms sign-extended; AluNop answers 0. -/
def Obligations.AluAddMultiply : Prop :=
  ∀ a b : Word,
    alu .aluNop a b = 0 ∧
    (alu .add64 a b).toNat = (a.toNat + b.toNat) % 2 ^ 64 ∧
    (alu .sub64 a b).toInt = ((a.toInt - b.toInt : Int)).bmod (2 ^ 64) ∧
    alu .add32 a b = (BitVec.ofNat 32 ((a.setWidth 32).toNat + (b.setWidth 32).toNat)).signExtend 64 ∧
    alu .sub32 a b = (BitVec.ofInt 32 ((a.setWidth 32).toInt - (b.setWidth 32).toInt)).signExtend 64 ∧
    (alu .mul64 a b).toNat = (a.toNat * b.toNat) % 2 ^ 64 ∧
    (alu .mulh64 a b).toInt = a.toInt * b.toInt / 2 ^ 64 ∧
    (alu .mulhsu64 a b).toInt = a.toInt * (b.toNat : Int) / 2 ^ 64 ∧
    (alu .mulhu64 a b).toNat = a.toNat * b.toNat / 2 ^ 64 ∧
    alu .mul32 a b = (BitVec.ofNat 32 ((a.setWidth 32).toNat * (b.setWidth 32).toNat)).signExtend 64 ∧
    alu .mulh32 a b = (BitVec.ofInt 32 ((a.setWidth 32).toInt * (b.setWidth 32).toInt / 2 ^ 32)).signExtend 64 ∧
    alu .mulhu32 a b = (BitVec.ofNat 32 ((a.setWidth 32).toNat * (b.setWidth 32).toNat / 2 ^ 32)).signExtend 64

/-- O26. The divisions of the ALU, 64-bit and 32-bit. Each 64-bit division and remainder: the zero divisor, the signed overflow and the ordinary case, which rounds toward zero and leaves the remainder the sign of the dividend. Each 32-bit one the same on the low halves of the operands, with every result sign-extended. -/
def Obligations.AluDivide : Prop :=
  ∀ a b : Word, let x := a.setWidth 32; let y := b.setWidth 32
    (b = 0 → alu .div64 a b = BitVec.allOnes 64 ∧ alu .rem64 a b = a ∧ alu .divu64 a b = BitVec.allOnes 64 ∧
      alu .remu64 a b = a) ∧
    (a.toInt = -2 ^ 63 → b.toInt = -1 → alu .div64 a b = a ∧ alu .rem64 a b = 0) ∧
    (b ≠ 0 → ¬ (a.toInt = -2 ^ 63 ∧ b.toInt = -1) →
      (alu .div64 a b).toInt = a.toInt.tdiv b.toInt ∧
      (alu .rem64 a b).toInt = a.toInt - b.toInt * a.toInt.tdiv b.toInt) ∧
    (b ≠ 0 → (alu .divu64 a b).toNat = a.toNat / b.toNat ∧ (alu .remu64 a b).toNat = a.toNat % b.toNat) ∧
    (y = 0 → alu .div32 a b = BitVec.allOnes 64 ∧ alu .rem32 a b = sext32 a ∧ alu .divu32 a b = BitVec.allOnes 64 ∧
      alu .remu32 a b = sext32 a) ∧
    (x.toInt = -2 ^ 31 → y.toInt = -1 → alu .div32 a b = sext32 0x80000000 ∧ alu .rem32 a b = 0) ∧
    (y ≠ 0 → ¬ (x.toInt = -2 ^ 31 ∧ y.toInt = -1) →
      (alu .div32 a b).toInt = x.toInt.tdiv y.toInt ∧ (alu .rem32 a b).toInt = x.toInt - y.toInt * x.toInt.tdiv y.toInt) ∧
    (y ≠ 0 → alu .divu32 a b = (BitVec.ofNat 32 (x.toNat / y.toNat)).signExtend 64 ∧
      alu .remu32 a b = (BitVec.ofNat 32 (x.toNat % y.toNat)).signExtend 64)

/-- O27. A word operation reads only the low 32 bits of its operands and answers a sign-extended word. Every word operation gives the same result for operands that agree in their low 32 bits, and its result is the sign extension of its own low 32 bits. -/
def Obligations.AluWordInputs : Prop :=
  ∀ (a b c d : Word) (n : BitVec 5) (op : AluOp), a.setWidth 32 = c.setWidth 32 → b.setWidth 32 = d.setWidth 32 →
    op ∈ [AluOp.sll32 n, AluOp.srl32 n, AluOp.sra32 n, AluOp.add32, AluOp.sub32, AluOp.sllV32, AluOp.srlV32, AluOp.sraV32,
      AluOp.mul32, AluOp.mulh32, AluOp.mulhu32, AluOp.div32, AluOp.rem32, AluOp.divu32, AluOp.remu32] →
    alu op a b = alu op c d ∧ alu op a b = sext32 (alu op a b)

/-- O28. MemRead assembles and MemWrite stores the bytes of memory in byte order. A read in range returns the value whose byte k by the byte order is the byte at a + k and whose other bits are 0; a write in range stores byte k of the value at a + k and leaves every other byte and every other state element; either, out of range, raises OutOfBounds. -/
def Obligations.MemReadAndWriteBytes : Prop :=
  ∀ (s : State) (a v : Word) (n : Nat), n ∈ [1, 2, 4, 8] →
    (s.inRange a n → ∃ u, s.memRead a n = .ok u ∧ u.toNat < 2 ^ (8 * n) ∧
      ∀ k < n, byteOf s.cfg.byteOrder n u k = s.mem.read (a.toNat + k)) ∧
    (¬ s.inRange a n → s.memRead a n = .error (.outOfBounds a n)) ∧
    (s.inRange a n → ∃ m, s.memWrite a n v = .ok { s with mem := m } ∧ StoredIn s m a n v) ∧
    (¬ s.inRange a n → s.memWrite a n v = .error (.outOfBounds a n))

/-- O29. What a host write at the register port does to each register. With the stage at Decode, a write of register 0 is ImmutableRegister for every value; of the stack pointer or the pc an invalid value is InvalidValue and a valid one is stored; of any other register every value is stored; nothing else changes and no error is latched. With the stage elsewhere every host write, at this port, the floating-point port and the memory ports, is refused. Register 0 reads 0 in every state. R760 says that a write elsewhere than at Decode returns an error and names none: that it is the model's own error inFlight, whatever the register, value or address, is the model's choice (log entry 15). -/
def Obligations.RegisterPortWrite : Prop :=
  ∀ (s : State) (v : Word), s.readX 0 = 0 ∧
    (s.stage = .decode →
      writeRegister s (.x 0) v = .error (.error (.immutableRegister (.x 0))) ∧
      (¬ s.spValid v → writeRegister s (.x s.cfg.isa.spIndex) v =
        .error (.error (.invalidValue (.x s.cfg.isa.spIndex) v))) ∧
      (∀ i : RegIx, i ≠ 0 → (i = s.cfg.isa.spIndex → s.spValid v) →
        ∃ t, writeRegister s (.x i) v = .ok t ∧ t = { s with x := t.x } ∧ t.readX i = v ∧
          ∀ j, j ≠ i → t.readX j = s.readX j) ∧
      (s.pcValid v → writeRegister s .pc v = .ok { s with pc := v }) ∧
      (¬ s.pcValid v → writeRegister s .pc v = .error (.error (.invalidValue .pc v)))) ∧
    (s.stage ≠ .decode → ∀ (id : RegIdent) (i : RegIx) (width : HostWidth) (a : Word),
      writeRegister s id v = .error .inFlight ∧ writeFloatPort s i v = .error .inFlight ∧
      writeMemory s width a v = .error .inFlight)

/-- O30. The reads of the host ports in every state, and their writes at Decode. In every state the register port reads any general register or the pc, the floating-point port any floating-point register and the condition code, and a memory port the 1, 2 or 4 bytes at an address as a raw value, or answers OutOfBounds; is_halted tells whether the machine is halted, and reset leaves the reset state of the same instance. With the stage at Decode a write of the floating-point port stores all 64 bits of any value in that register and changes nothing else, and a write of a memory port stores the low bytes of the value in byte order and changes nothing else, or answers OutOfBounds. -/
def Obligations.HostPorts : Prop :=
  ∀ (s : State) (i : RegIx) (a v : Word) (width : HostWidth), let n := match width with | .byte => 1 | .half => 2 | .word => 4
    readRegister s (.x i) = s.readX i ∧ readRegister s .pc = s.pc ∧ readFloat s i = s.readF i ∧ readCc s = s.cc ∧
    (s.inRange a n → ∃ u, readMemory s width a = .ok u ∧ u.toNat < 2 ^ (8 * n) ∧
      ∀ k < n, byteOf s.cfg.byteOrder n u k = s.mem.read (a.toNat + k)) ∧
    (¬ s.inRange a n → readMemory s width a = .error (.error (.outOfBounds a n))) ∧
    (isHalted s = true ↔ s.run = .halted) ∧ hostReset s = State.resetWith s.cfg ∧
    (s.stage = .decode →
      (∃ t, writeFloatPort s i v = .ok t ∧ t = { s with f := t.f } ∧ t.readF i = v ∧ ∀ j, j ≠ i → t.readF j = s.readF j) ∧
      (s.inRange a n → ∃ m, writeMemory s width a v = .ok { s with mem := m } ∧ StoredIn s m a n v) ∧
      (¬ s.inRange a n → writeMemory s width a v = .error (.error (.outOfBounds a n))))

/-- O31. What load does. In a legal instance, a program too large or a bad start is refused; otherwise load leaves a reset machine with the pc at the start and prog_end after the program, each word is fetched back at its address, and every byte above the program is 0. -/
def Obligations.LoadPlacesProgram : Prop :=
  ∀ (s : State) (words : List Word32) (start : Word), s.cfg.wf →
    (s.cfg.memCapacity < 4 * words.length → load s words start = .error .tooLarge) ∧
    (4 * words.length ≤ s.cfg.memCapacity → start.toNat % 4 ≠ 0 ∨ 4 * words.length < start.toNat →
      load s words start = .error .badStart) ∧
    (4 * words.length ≤ s.cfg.memCapacity → start.toNat % 4 = 0 → start.toNat ≤ 4 * words.length →
      ∃ t, load s words start = .ok t ∧
        t = { State.resetWith s.cfg with mem := t.mem, progEnd := BitVec.ofNat 64 (4 * words.length), pc := start } ∧
        (∀ k (hk : k < words.length), fetchWord { t with pc := BitVec.ofNat 64 (4 * k) } = some words[k]) ∧
        (∀ a, 4 * words.length ≤ a → t.mem.read a = 0))

/-- O32. The additions, subtractions and multiplications of MIPS64L. add, addu, sub, subu, mul, mulu, muh, muhu write the sign-extended 32-bit result of the low halves of their sources; dadd, daddu, dsub, dsubu, dmul, dmulu, dmuh, dmuhu the 64-bit result, or the high half of the exact product. Each advances the pc by 4 and changes nothing else; an invalid stack pointer or pc value is an InvalidValue. -/
def Obligations.MipsArithmetic : Prop :=
  ∀ (s : State), s.cfg.isa = .mips64l →
    ∀ (rs rt rd : RegIx) (shamt : BitVec 5),
      Computes (.mipsAdd rs rt rd shamt) s rd (sext32 (s.readX rs + s.readX rt)) ∧
      Computes (.mipsAddu rs rt rd shamt) s rd (sext32 (s.readX rs + s.readX rt)) ∧
      Computes (.mipsSub rs rt rd shamt) s rd (sext32 (s.readX rs - s.readX rt)) ∧
      Computes (.mipsSubu rs rt rd shamt) s rd (sext32 (s.readX rs - s.readX rt)) ∧
      Computes (.mipsMul rs rt rd) s rd (sext32 (s.readX rs * s.readX rt)) ∧
      Computes (.mipsMulu rs rt rd) s rd (sext32 (s.readX rs * s.readX rt)) ∧
      Computes (.mipsMuh rs rt rd) s rd ((BitVec.ofInt 32 (((s.readX rs).setWidth 32).toInt * ((s.readX rt).setWidth 32).toInt / 2 ^ 32)).signExtend 64) ∧
      Computes (.mipsMuhu rs rt rd) s rd ((BitVec.ofNat 32 (((s.readX rs).setWidth 32).toNat * ((s.readX rt).setWidth 32).toNat / 2 ^ 32)).signExtend 64) ∧
      Computes (.mipsDadd rs rt rd shamt) s rd (s.readX rs + s.readX rt) ∧
      Computes (.mipsDaddu rs rt rd shamt) s rd (s.readX rs + s.readX rt) ∧
      Computes (.mipsDsub rs rt rd shamt) s rd (s.readX rs - s.readX rt) ∧
      Computes (.mipsDsubu rs rt rd shamt) s rd (s.readX rs - s.readX rt) ∧
      Computes (.mipsDmul rs rt rd) s rd (s.readX rs * s.readX rt) ∧
      Computes (.mipsDmulu rs rt rd) s rd (s.readX rs * s.readX rt) ∧
      Computes (.mipsDmuh rs rt rd) s rd (BitVec.ofInt 64 ((s.readX rs).toInt * (s.readX rt).toInt / 2 ^ 64)) ∧
      Computes (.mipsDmuhu rs rt rd) s rd (BitVec.ofNat 64 ((s.readX rs).toNat * (s.readX rt).toNat / 2 ^ 64))

/-- O33. The divisions and remainders of MIPS64L. div, mod, divu, modu on the low halves with a sign-extended result, and ddiv, dmod, ddivu, dmodu: a zero divisor gives all ones and the dividend, otherwise the quotient rounds toward zero; the pc advances by 4 and nothing else changes. -/
def Obligations.MipsDivision : Prop :=
  ∀ (s : State), s.cfg.isa = .mips64l →
    ∀ (rs rt rd : RegIx),
      Computes (.mipsDiv rs rt rd) s rd ((if ((s.readX rt).setWidth 32) = 0 then BitVec.allOnes 32 else ((s.readX rs).setWidth 32).sdiv ((s.readX rt).setWidth 32)).signExtend 64) ∧
      Computes (.mipsMod rs rt rd) s rd ((if ((s.readX rt).setWidth 32) = 0 then ((s.readX rs).setWidth 32) else ((s.readX rs).setWidth 32).srem ((s.readX rt).setWidth 32)).signExtend 64) ∧
      Computes (.mipsDivu rs rt rd) s rd ((if ((s.readX rt).setWidth 32) = 0 then BitVec.allOnes 32 else ((s.readX rs).setWidth 32) / ((s.readX rt).setWidth 32)).signExtend 64) ∧
      Computes (.mipsModu rs rt rd) s rd ((((s.readX rs).setWidth 32) % ((s.readX rt).setWidth 32)).signExtend 64) ∧
      Computes (.mipsDdiv rs rt rd) s rd (if s.readX rt = 0 then BitVec.allOnes 64 else (s.readX rs).sdiv (s.readX rt)) ∧
      Computes (.mipsDmod rs rt rd) s rd (if s.readX rt = 0 then s.readX rs else (s.readX rs).srem (s.readX rt)) ∧
      Computes (.mipsDdivu rs rt rd) s rd (if s.readX rt = 0 then BitVec.allOnes 64 else s.readX rs / s.readX rt) ∧
      Computes (.mipsDmodu rs rt rd) s rd (s.readX rs % s.readX rt)

/-- O34. The bitwise and comparing register instructions of MIPS64L. and, or, xor, nor write the bitwise result and slt, sltu 1 or 0 by the signed or unsigned comparison; the pc advances by 4 and nothing else changes. -/
def Obligations.MipsLogicAndCompare : Prop :=
  ∀ (s : State), s.cfg.isa = .mips64l →
    ∀ (rs rt rd : RegIx) (shamt : BitVec 5),
      Computes (.mipsAnd rs rt rd shamt) s rd (s.readX rs &&& s.readX rt) ∧
      Computes (.mipsOr rs rt rd shamt) s rd (s.readX rs ||| s.readX rt) ∧
      Computes (.mipsXor rs rt rd shamt) s rd (s.readX rs ^^^ s.readX rt) ∧
      Computes (.mipsNor rs rt rd shamt) s rd (~~~(s.readX rs ||| s.readX rt)) ∧
      Computes (.mipsSlt rs rt rd shamt) s rd (if (s.readX rs).toInt < (s.readX rt).toInt then 1 else 0) ∧
      Computes (.mipsSltu rs rt rd shamt) s rd (if (s.readX rs).toNat < (s.readX rt).toNat then 1 else 0)

/-- O35. The immediate shifts of MIPS64L. sll, srl, sra on the low half with a sign-extended result, dsll, dsrl, dsra and the forms that add 32 to the amount; the shifted register is rt; the pc advances by 4 and nothing else changes. -/
def Obligations.MipsShifts : Prop :=
  ∀ (s : State), s.cfg.isa = .mips64l →
    ∀ (rs rt rd : RegIx) (sa : BitVec 5),
      Computes (.mipsSll rs rt rd sa) s rd (sext32 (s.readX rt <<< sa.toNat)) ∧
      Computes (.mipsSrl rs rt rd sa) s rd ((((s.readX rt).setWidth 32) >>> sa.toNat).signExtend 64) ∧
      Computes (.mipsSra rs rt rd sa) s rd (BitVec.ofInt 64 (((s.readX rt).setWidth 32).toInt / 2 ^ sa.toNat)) ∧
      Computes (.mipsDsll rs rt rd sa) s rd (s.readX rt <<< sa.toNat) ∧
      Computes (.mipsDsrl rs rt rd sa) s rd (s.readX rt >>> sa.toNat) ∧
      Computes (.mipsDsra rs rt rd sa) s rd (BitVec.ofInt 64 ((s.readX rt).toInt / 2 ^ sa.toNat)) ∧
      Computes (.mipsDsll32 rs rt rd sa) s rd (s.readX rt <<< (sa.toNat + 32)) ∧
      Computes (.mipsDsrl32 rs rt rd sa) s rd (s.readX rt >>> (sa.toNat + 32)) ∧
      Computes (.mipsDsra32 rs rt rd sa) s rd (BitVec.ofInt 64 ((s.readX rt).toInt / 2 ^ (sa.toNat + 32)))

/-- O36. The immediate instructions of MIPS64L. addi, addiu, slti, sltiu, daddi, daddiu sign-extend the immediate, andi, ori, xori zero-extend it and lui shifts it up by 16; the destination is rt, the pc advances by 4 and nothing else changes. -/
def Obligations.MipsImmediates : Prop :=
  ∀ (s : State), s.cfg.isa = .mips64l →
    ∀ (rs rt : RegIx) (imm16 : BitVec 16),
      Computes (.mipsAddi rs rt imm16) s rt (sext32 (s.readX rs + imm16.signExtend 64)) ∧
      Computes (.mipsAddiu rs rt imm16) s rt (sext32 (s.readX rs + imm16.signExtend 64)) ∧
      Computes (.mipsSlti rs rt imm16) s rt (if (s.readX rs).toInt < imm16.toInt then 1 else 0) ∧
      Computes (.mipsSltiu rs rt imm16) s rt (if (s.readX rs).toNat < (imm16.signExtend 64).toNat then 1 else 0) ∧
      Computes (.mipsAndi rs rt imm16) s rt (s.readX rs &&& imm16.setWidth 64) ∧
      Computes (.mipsOri rs rt imm16) s rt (s.readX rs ||| imm16.setWidth 64) ∧
      Computes (.mipsXori rs rt imm16) s rt (s.readX rs ^^^ imm16.setWidth 64) ∧
      Computes (.mipsLui rs rt imm16) s rt (sext32 (imm16.setWidth 64 <<< 16)) ∧
      Computes (.mipsDaddi rs rt imm16) s rt (s.readX rs + imm16.signExtend 64) ∧
      Computes (.mipsDaddiu rs rt imm16) s rt (s.readX rs + imm16.signExtend 64)

/-- O37. The loads and stores of MIPS64L. lb, lbu, lh, lhu, lw, lwu, ld read the bytes at x[base] plus the sign-extended offset, at any alignment, and write them to rt extended as each says; out of range they raise OutOfBounds with that address and nothing changes. sb, sh, sw, sd store the low 1, 2, 4, 8 bytes of rt at x[base] plus the sign-extended offset, in byte order and at any alignment; every other byte and every register is unchanged and the pc advances by 4; out of range they raise OutOfBounds and store nothing. -/
def Obligations.MipsLoadsAndStores : Prop :=
  ∀ (s : State), s.cfg.isa = .mips64l →
    (∀ (base rt : RegIx) (imm16 : BitVec 16),
       Loads (.mipsLb base rt imm16) s rt (s.readX base + imm16.signExtend 64) 1 (BitVec.signExtend 64) ∧
       Loads (.mipsLbu base rt imm16) s rt (s.readX base + imm16.signExtend 64) 1 (BitVec.setWidth 64) ∧
       Loads (.mipsLh base rt imm16) s rt (s.readX base + imm16.signExtend 64) 2 (BitVec.signExtend 64) ∧
       Loads (.mipsLhu base rt imm16) s rt (s.readX base + imm16.signExtend 64) 2 (BitVec.setWidth 64) ∧
       Loads (.mipsLw base rt imm16) s rt (s.readX base + imm16.signExtend 64) 4 (BitVec.signExtend 64) ∧
       Loads (.mipsLwu base rt imm16) s rt (s.readX base + imm16.signExtend 64) 4 (BitVec.setWidth 64) ∧
       Loads (.mipsLd base rt imm16) s rt (s.readX base + imm16.signExtend 64) 8 (BitVec.setWidth 64)) ∧
    (∀ (base rt : RegIx) (imm16 : BitVec 16),
       Stores (.mipsSb base rt imm16) s s (s.readX base + imm16.signExtend 64) 1 (s.readX rt) ∧
       Stores (.mipsSh base rt imm16) s s (s.readX base + imm16.signExtend 64) 2 (s.readX rt) ∧
       Stores (.mipsSw base rt imm16) s s (s.readX base + imm16.signExtend 64) 4 (s.readX rt) ∧
       Stores (.mipsSd base rt imm16) s s (s.readX base + imm16.signExtend 64) 8 (s.readX rt))

/-- O38. The branches and jumps of MIPS64L. beq and bne go to pc + 4 plus four times the offset when they are taken and to pc + 4 when not; j and jal go to the region target, jr and jalr to the old x[rs]; bc1f and bc1t branch like beq by the condition code an earlier instruction left; jal links pc + 4 in x[31] and jalr in x[rd]; no delay slot; a target that is no valid pc is an InvalidValue. -/
def Obligations.MipsBranchesAndJumps : Prop :=
  ∀ (s : State), s.cfg.isa = .mips64l →
    ∀ (rs rt rd : RegIx) (shamt : BitVec 5) (imm16 : BitVec 16) (index : BitVec 26),
      GoesTo (.mipsBeq rs rt imm16) s s s (if s.readX rs = s.readX rt then (s.pc + 4 + imm16.signExtend 64 * 4) else s.pc + 4) ∧
      GoesTo (.mipsBne rs rt imm16) s s s (if s.readX rs = s.readX rt then s.pc + 4 else (s.pc + 4 + imm16.signExtend 64 * 4)) ∧
      GoesTo (.mipsJ index) s s s ((s.pc + 4).extractLsb' 28 36 ++ index ++ 0#2) ∧
      WritesFrom (.mipsJal index) s s s 31 (s.pc + 4) ((s.pc + 4).extractLsb' 28 36 ++ index ++ 0#2) ∧
      GoesTo (.mipsBc1f imm16) s s s (if s.cc then s.pc + 4 else (s.pc + 4 + imm16.signExtend 64 * 4)) ∧
      GoesTo (.mipsBc1t imm16) s s s (if s.cc then (s.pc + 4 + imm16.signExtend 64 * 4) else s.pc + 4) ∧
      GoesTo (.mipsJr rs rt rd shamt) s s s (s.readX rs) ∧
      WritesFrom (.mipsJalr rs rt rd shamt) s s s rd (s.pc + 4) (s.readX rs)

/-- O39. The coprocessor loads, stores and moves of MIPS64L. lwc1 and ldc1 bring 4 or 8 bytes to data and to f[ft], lwc1 with the upper half 0; swc1 and sdc1 send f[ft] to data and its low 4 or 8 bytes to memory; out of range they raise OutOfBounds, a store with data already written. mfc1 and dmfc1 send f[fs] through data to rt, mfc1 with its low half sign-extended; mtc1 and dmtc1 send rt through data to f[fs], mtc1 with the upper half 0; data takes all 64 bits. -/
def Obligations.MipsCop1MemoryAndMoves : Prop :=
  ∀ (s : State), s.cfg.isa = .mips64l →
    (∀ (base ft : RegIx) (imm16 : BitVec 16),
       (s.inRange (s.readX base + imm16.signExtend 64) 4 → let v := (loadedBits s (s.readX base + imm16.signExtend 64) 4).setWidth 64; GoesTo (.mipsLwc1 base ft imm16) s { s.setF ft v with data := v } { s with data := v } (s.pc + 4)) ∧
       (¬ s.inRange (s.readX base + imm16.signExtend 64) 4 → Raises (.mipsLwc1 base ft imm16) s s .memory (.outOfBounds (s.readX base + imm16.signExtend 64) 4)) ∧
       (s.inRange (s.readX base + imm16.signExtend 64) 8 → let v := (loadedBits s (s.readX base + imm16.signExtend 64) 8).setWidth 64; GoesTo (.mipsLdc1 base ft imm16) s { s.setF ft v with data := v } { s with data := v } (s.pc + 4)) ∧
       (¬ s.inRange (s.readX base + imm16.signExtend 64) 8 → Raises (.mipsLdc1 base ft imm16) s s .memory (.outOfBounds (s.readX base + imm16.signExtend 64) 8)) ∧
       Stores (.mipsSwc1 base ft imm16) s { s with data := s.readF ft } (s.readX base + imm16.signExtend 64) 4 (s.readF ft) ∧
       Stores (.mipsSdc1 base ft imm16) s { s with data := s.readF ft } (s.readX base + imm16.signExtend 64) 8 (s.readF ft)) ∧
    (∀ (rt fs : RegIx) (shamt : BitVec 5) (funct : BitVec 6),
       WritesFrom (.mipsMfc1 rt fs shamt funct) s { s with data := s.readF fs } { s with data := s.readF fs } rt (sext32 (s.readF fs)) (s.pc + 4) ∧
       WritesFrom (.mipsDmfc1 rt fs shamt funct) s { s with data := s.readF fs } { s with data := s.readF fs } rt (s.readF fs) (s.pc + 4) ∧
       GoesTo (.mipsMtc1 rt fs shamt funct) s { s.setF fs (((s.readX rt).setWidth 32).setWidth 64) with data := s.readX rt } { s with data := s.readX rt } (s.pc + 4) ∧
       GoesTo (.mipsDmtc1 rt fs shamt funct) s { s.setF fs (s.readX rt) with data := s.readX rt } { s with data := s.readX rt } (s.pc + 4))

/-- O40. The coprocessor arithmetic of MIPS64L. add.s and add.d always, and sub, mul, div and sqrt in both widths where the instance completes them, write the function of 47_fp_numerics.md rounded to nearest even to f[fd], a word result with the upper half 0; where the instance reports them the latter raise UnimplementedFpuOp in Execute. -/
def Obligations.MipsCop1Arithmetic : Prop :=
  ∀ (s : State), s.cfg.isa = .mips64l →
    ∀ (ft fs fd : RegIx),
      ComputesFloat (.mipsAddS ft fs fd) s .word fd (fpAdd .word .rne (s.readF fs) (s.readF ft)) ∧
      ComputesFloat (.mipsAddD ft fs fd) s .double fd (fpAdd .double .rne (s.readF fs) (s.readF ft)) ∧
      WhenCompleted (.mipsSubS ft fs fd) s (.fpu .fSub) (ComputesFloat (.mipsSubS ft fs fd) s .word fd (fpSub .word .rne (s.readF fs) (s.readF ft))) ∧
      WhenCompleted (.mipsSubD ft fs fd) s (.fpu .fSub) (ComputesFloat (.mipsSubD ft fs fd) s .double fd (fpSub .double .rne (s.readF fs) (s.readF ft))) ∧
      WhenCompleted (.mipsMulS ft fs fd) s (.fpu .fMul) (ComputesFloat (.mipsMulS ft fs fd) s .word fd (fpMul .word .rne (s.readF fs) (s.readF ft))) ∧
      WhenCompleted (.mipsMulD ft fs fd) s (.fpu .fMul) (ComputesFloat (.mipsMulD ft fs fd) s .double fd (fpMul .double .rne (s.readF fs) (s.readF ft))) ∧
      WhenCompleted (.mipsDivS ft fs fd) s (.fpu .fDiv) (ComputesFloat (.mipsDivS ft fs fd) s .word fd (fpDiv .word .rne (s.readF fs) (s.readF ft))) ∧
      WhenCompleted (.mipsDivD ft fs fd) s (.fpu .fDiv) (ComputesFloat (.mipsDivD ft fs fd) s .double fd (fpDiv .double .rne (s.readF fs) (s.readF ft))) ∧
      WhenCompleted (.mipsSqrtS fs fd) s (.fpu .fSqrt) (ComputesFloat (.mipsSqrtS fs fd) s .word fd (fpSqrt .word .rne (s.readF fs))) ∧
      WhenCompleted (.mipsSqrtD fs fd) s (.fpu .fSqrt) (ComputesFloat (.mipsSqrtD fs fd) s .double fd (fpSqrt .double .rne (s.readF fs)))

/-- O41. The coprocessor comparisons of MIPS64L. c.eq always, and c.lt and c.le where the instance completes them, write the comparison of f[fs] and f[ft] to the condition code and nothing else; where the instance reports them the latter raise UnimplementedFpuOp in Execute. -/
def Obligations.MipsCop1Compares : Prop :=
  ∀ (s : State), s.cfg.isa = .mips64l →
    ∀ (ft fs : RegIx),
      GoesTo (.mipsCEqS ft fs) s { s with cc := fpEq .word (s.readF fs) (s.readF ft) } s (s.pc + 4) ∧
      GoesTo (.mipsCEqD ft fs) s { s with cc := fpEq .double (s.readF fs) (s.readF ft) } s (s.pc + 4) ∧
      WhenCompleted (.mipsCLtS ft fs) s (.cmp .cmpLt) (GoesTo (.mipsCLtS ft fs) s { s with cc := fpLt .word (s.readF fs) (s.readF ft) } s (s.pc + 4)) ∧
      WhenCompleted (.mipsCLtD ft fs) s (.cmp .cmpLt) (GoesTo (.mipsCLtD ft fs) s { s with cc := fpLt .double (s.readF fs) (s.readF ft) } s (s.pc + 4)) ∧
      WhenCompleted (.mipsCLeS ft fs) s (.cmp .cmpLe) (GoesTo (.mipsCLeS ft fs) s { s with cc := fpLe .word (s.readF fs) (s.readF ft) } s (s.pc + 4)) ∧
      WhenCompleted (.mipsCLeD ft fs) s (.cmp .cmpLe) (GoesTo (.mipsCLeD ft fs) s { s with cc := fpLe .double (s.readF fs) (s.readF ft) } s (s.pc + 4))

/-- O42. syscall and ecall advance the pc by 4 and halt. syscall in a MIPS64L instance and ecall in an RV64L one advance the pc by 4, halt the machine and change nothing else. -/
def Obligations.HaltingInstructions : Prop :=
  ∀ s : State,
    (s.cfg.isa = .mips64l → ∀ (rs rt rd : RegIx) (shamt : BitVec 5),
      GoesTo (.mipsSyscall rs rt rd shamt) s { s with run := .halted } s (s.pc + 4)) ∧
    (s.cfg.isa = .rv64l → ∀ rs1 rd : RegIx, GoesTo (.rvEcall rs1 rd) s { s with run := .halted } s (s.pc + 4))

/-- O43. The immediate instructions of RV64L. lui, auipc, addi, slti, sltiu, xori, ori, andi and addiw with their sign-extended immediates write rd, advance the pc by 4 and change nothing else. -/
def Obligations.RvImmediates : Prop :=
  ∀ (s : State), s.cfg.isa = .rv64l →
    ∀ (imm12 : BitVec 12) (imm20 : BitVec 20) (rs1 rd : RegIx),
      Computes (.rvLui imm20 rd) s rd ((imm20 ++ 0#12).signExtend 64) ∧
      Computes (.rvAuipc imm20 rd) s rd (s.pc + (imm20 ++ 0#12).signExtend 64) ∧
      Computes (.rvAddi imm12 rs1 rd) s rd (s.readX rs1 + imm12.signExtend 64) ∧
      Computes (.rvSlti imm12 rs1 rd) s rd (if (s.readX rs1).toInt < imm12.toInt then 1 else 0) ∧
      Computes (.rvSltiu imm12 rs1 rd) s rd (if (s.readX rs1).toNat < (imm12.signExtend 64).toNat then 1 else 0) ∧
      Computes (.rvXori imm12 rs1 rd) s rd (s.readX rs1 ^^^ imm12.signExtend 64) ∧
      Computes (.rvOri imm12 rs1 rd) s rd (s.readX rs1 ||| imm12.signExtend 64) ∧
      Computes (.rvAndi imm12 rs1 rd) s rd (s.readX rs1 &&& imm12.signExtend 64) ∧
      Computes (.rvAddiw imm12 rs1 rd) s rd (sext32 (s.readX rs1 + imm12.signExtend 64))

/-- O44. The shifts, the register arithmetic and logic of RV64L. The immediate shifts by their own amount and the register shifts by the low six (word forms: five) bits of x[rs2], the word forms on the low half with a sign-extended result; the pc advances by 4 and nothing else changes. add, sub, slt, sltu, xor, or, and, addw, subw write the result to rd, the word forms sign-extended, advance the pc by 4 and change nothing else. -/
def Obligations.RvRegisterOperations : Prop :=
  ∀ (s : State), s.cfg.isa = .rv64l →
    (∀ (sh : BitVec 6) (shw : BitVec 5) (rs2 rs1 rd : RegIx),
       Computes (.rvSlli sh rs1 rd) s rd ((s.readX rs1) <<< sh.toNat) ∧
       Computes (.rvSrli sh rs1 rd) s rd ((s.readX rs1) >>> sh.toNat) ∧
       Computes (.rvSrai sh rs1 rd) s rd (BitVec.ofInt 64 ((s.readX rs1).toInt / 2 ^ sh.toNat)) ∧
       Computes (.rvSlliw shw rs1 rd) s rd (sext32 ((s.readX rs1) <<< shw.toNat)) ∧
       Computes (.rvSrliw shw rs1 rd) s rd ((((s.readX rs1).setWidth 32) >>> shw.toNat).signExtend 64) ∧
       Computes (.rvSraiw shw rs1 rd) s rd (BitVec.ofInt 64 (((s.readX rs1).setWidth 32).toInt / 2 ^ shw.toNat)) ∧
       Computes (.rvSll rs2 rs1 rd) s rd ((s.readX rs1) <<< ((s.readX rs2).toNat % 64)) ∧
       Computes (.rvSrl rs2 rs1 rd) s rd ((s.readX rs1) >>> ((s.readX rs2).toNat % 64)) ∧
       Computes (.rvSra rs2 rs1 rd) s rd (BitVec.ofInt 64 ((s.readX rs1).toInt / 2 ^ ((s.readX rs2).toNat % 64))) ∧
       Computes (.rvSllw rs2 rs1 rd) s rd (sext32 ((s.readX rs1) <<< ((s.readX rs2).toNat % 32))) ∧
       Computes (.rvSrlw rs2 rs1 rd) s rd ((((s.readX rs1).setWidth 32) >>> ((s.readX rs2).toNat % 32)).signExtend 64) ∧
       Computes (.rvSraw rs2 rs1 rd) s rd (BitVec.ofInt 64 (((s.readX rs1).setWidth 32).toInt / 2 ^ ((s.readX rs2).toNat % 32)))) ∧
    (∀ (rs2 rs1 rd : RegIx),
       Computes (.rvAdd rs2 rs1 rd) s rd ((s.readX rs1) + (s.readX rs2)) ∧
       Computes (.rvSub rs2 rs1 rd) s rd ((s.readX rs1) - (s.readX rs2)) ∧
       Computes (.rvSlt rs2 rs1 rd) s rd (if (s.readX rs1).toInt < (s.readX rs2).toInt then 1 else 0) ∧
       Computes (.rvSltu rs2 rs1 rd) s rd (if (s.readX rs1).toNat < (s.readX rs2).toNat then 1 else 0) ∧
       Computes (.rvXor rs2 rs1 rd) s rd ((s.readX rs1) ^^^ (s.readX rs2)) ∧
       Computes (.rvOr rs2 rs1 rd) s rd ((s.readX rs1) ||| (s.readX rs2)) ∧
       Computes (.rvAnd rs2 rs1 rd) s rd ((s.readX rs1) &&& (s.readX rs2)) ∧
       Computes (.rvAddw rs2 rs1 rd) s rd (sext32 ((s.readX rs1) + (s.readX rs2))) ∧
       Computes (.rvSubw rs2 rs1 rd) s rd (sext32 ((s.readX rs1) - (s.readX rs2))))

/-- O45. The multiplications and divisions of RV64L. mul, mulh, mulhsu, mulhu, mulw give the low half or the high half of the exact product; div, divu, rem, remu and their word forms give all ones and the dividend for a zero divisor and otherwise the quotient rounded toward zero and its remainder; the pc advances by 4 and nothing else changes. -/
def Obligations.RvMultiplyDivide : Prop :=
  ∀ (s : State), s.cfg.isa = .rv64l →
    ∀ (rs2 rs1 rd : RegIx),
      Computes (.rvMul rs2 rs1 rd) s rd ((s.readX rs1) * (s.readX rs2)) ∧
      Computes (.rvMulh rs2 rs1 rd) s rd (BitVec.ofInt 64 ((s.readX rs1).toInt * (s.readX rs2).toInt / 2 ^ 64)) ∧
      Computes (.rvMulhsu rs2 rs1 rd) s rd (BitVec.ofInt 64 ((s.readX rs1).toInt * ((s.readX rs2).toNat : Int) / 2 ^ 64)) ∧
      Computes (.rvMulhu rs2 rs1 rd) s rd (BitVec.ofNat 64 ((s.readX rs1).toNat * (s.readX rs2).toNat / 2 ^ 64)) ∧
      Computes (.rvMulw rs2 rs1 rd) s rd (sext32 ((s.readX rs1) * (s.readX rs2))) ∧
      Computes (.rvDiv rs2 rs1 rd) s rd (if (s.readX rs2) = 0 then BitVec.allOnes 64 else (s.readX rs1).sdiv (s.readX rs2)) ∧
      Computes (.rvDivu rs2 rs1 rd) s rd (if (s.readX rs2) = 0 then BitVec.allOnes 64 else (s.readX rs1) / (s.readX rs2)) ∧
      Computes (.rvRem rs2 rs1 rd) s rd (if (s.readX rs2) = 0 then (s.readX rs1) else (s.readX rs1).srem (s.readX rs2)) ∧
      Computes (.rvRemu rs2 rs1 rd) s rd ((s.readX rs1) % (s.readX rs2)) ∧
      Computes (.rvDivw rs2 rs1 rd) s rd ((if ((s.readX rs2).setWidth 32) = 0 then BitVec.allOnes 32 else ((s.readX rs1).setWidth 32).sdiv ((s.readX rs2).setWidth 32)).signExtend 64) ∧
      Computes (.rvDivuw rs2 rs1 rd) s rd ((if ((s.readX rs2).setWidth 32) = 0 then BitVec.allOnes 32 else ((s.readX rs1).setWidth 32) / ((s.readX rs2).setWidth 32)).signExtend 64) ∧
      Computes (.rvRemw rs2 rs1 rd) s rd ((if ((s.readX rs2).setWidth 32) = 0 then ((s.readX rs1).setWidth 32) else ((s.readX rs1).setWidth 32).srem ((s.readX rs2).setWidth 32)).signExtend 64) ∧
      Computes (.rvRemuw rs2 rs1 rd) s rd ((((s.readX rs1).setWidth 32) % ((s.readX rs2).setWidth 32)).signExtend 64)

/-- O46. The loads and stores of RV64L. lb, lh, lw, ld, lbu, lhu, lwu read the bytes at x[rs1] plus the sign-extended offset, at any alignment, and write them to rd extended as each says; out of range they raise OutOfBounds with that address and nothing changes. sb, sh, sw, sd store the low 1, 2, 4, 8 bytes of x[rs2] at x[rs1] plus the sign-extended offset, in byte order and at any alignment; every other byte and every register is unchanged and the pc advances by 4; out of range they raise OutOfBounds and store nothing. -/
def Obligations.RvLoadsAndStores : Prop :=
  ∀ (s : State), s.cfg.isa = .rv64l →
    (∀ (imm12 : BitVec 12) (rs1 rd : RegIx),
       Loads (.rvLb imm12 rs1 rd) s rd (s.readX rs1 + imm12.signExtend 64) 1 (BitVec.signExtend 64) ∧
       Loads (.rvLh imm12 rs1 rd) s rd (s.readX rs1 + imm12.signExtend 64) 2 (BitVec.signExtend 64) ∧
       Loads (.rvLw imm12 rs1 rd) s rd (s.readX rs1 + imm12.signExtend 64) 4 (BitVec.signExtend 64) ∧
       Loads (.rvLd imm12 rs1 rd) s rd (s.readX rs1 + imm12.signExtend 64) 8 (BitVec.setWidth 64) ∧
       Loads (.rvLbu imm12 rs1 rd) s rd (s.readX rs1 + imm12.signExtend 64) 1 (BitVec.setWidth 64) ∧
       Loads (.rvLhu imm12 rs1 rd) s rd (s.readX rs1 + imm12.signExtend 64) 2 (BitVec.setWidth 64) ∧
       Loads (.rvLwu imm12 rs1 rd) s rd (s.readX rs1 + imm12.signExtend 64) 4 (BitVec.setWidth 64)) ∧
    (∀ (imm7 : BitVec 7) (rs2 rs1 : RegIx) (imm5 : BitVec 5),
       Stores (.rvSb imm7 rs2 rs1 imm5) s s (s.readX rs1 + (imm7 ++ imm5).signExtend 64) 1 (s.readX rs2) ∧
       Stores (.rvSh imm7 rs2 rs1 imm5) s s (s.readX rs1 + (imm7 ++ imm5).signExtend 64) 2 (s.readX rs2) ∧
       Stores (.rvSw imm7 rs2 rs1 imm5) s s (s.readX rs1 + (imm7 ++ imm5).signExtend 64) 4 (s.readX rs2) ∧
       Stores (.rvSd imm7 rs2 rs1 imm5) s s (s.readX rs1 + (imm7 ++ imm5).signExtend 64) 8 (s.readX rs2))

/-- O47. The branches and jumps of RV64L. beq, bne, blt, bge, bltu, bgeu go to pc plus the sign-extended even offset when their comparison of x[rs1] and x[rs2] holds and to pc + 4 when not; a target that is no valid pc is an InvalidValue. jal goes to pc plus the sign-extended even offset and jalr to the old x[rs1] plus the sign-extended offset with bit 0 cleared; both link pc + 4 in rd (register 0 stores nothing); an invalid link for the stack pointer or an invalid target is an InvalidValue. -/
def Obligations.RvBranchesAndJumps : Prop :=
  ∀ (s : State), s.cfg.isa = .rv64l →
    (∀ (imm7 : BitVec 7) (rs2 rs1 : RegIx) (imm5 : BitVec 5),
       GoesTo (.rvBeq imm7 rs2 rs1 imm5) s s s (if (s.readX rs1) = (s.readX rs2) then (s.pc + (imm7.extractLsb' 6 1 ++ imm5.extractLsb' 0 1 ++ imm7.extractLsb' 0 6 ++ imm5.extractLsb' 1 4 ++ 0#1).signExtend 64) else s.pc + 4) ∧
       GoesTo (.rvBne imm7 rs2 rs1 imm5) s s s (if (s.readX rs1) ≠ (s.readX rs2) then (s.pc + (imm7.extractLsb' 6 1 ++ imm5.extractLsb' 0 1 ++ imm7.extractLsb' 0 6 ++ imm5.extractLsb' 1 4 ++ 0#1).signExtend 64) else s.pc + 4) ∧
       GoesTo (.rvBlt imm7 rs2 rs1 imm5) s s s (if (s.readX rs1).toInt < (s.readX rs2).toInt then (s.pc + (imm7.extractLsb' 6 1 ++ imm5.extractLsb' 0 1 ++ imm7.extractLsb' 0 6 ++ imm5.extractLsb' 1 4 ++ 0#1).signExtend 64) else s.pc + 4) ∧
       GoesTo (.rvBge imm7 rs2 rs1 imm5) s s s (if (s.readX rs2).toInt ≤ (s.readX rs1).toInt then (s.pc + (imm7.extractLsb' 6 1 ++ imm5.extractLsb' 0 1 ++ imm7.extractLsb' 0 6 ++ imm5.extractLsb' 1 4 ++ 0#1).signExtend 64) else s.pc + 4) ∧
       GoesTo (.rvBltu imm7 rs2 rs1 imm5) s s s (if (s.readX rs1).toNat < (s.readX rs2).toNat then (s.pc + (imm7.extractLsb' 6 1 ++ imm5.extractLsb' 0 1 ++ imm7.extractLsb' 0 6 ++ imm5.extractLsb' 1 4 ++ 0#1).signExtend 64) else s.pc + 4) ∧
       GoesTo (.rvBgeu imm7 rs2 rs1 imm5) s s s (if (s.readX rs2).toNat ≤ (s.readX rs1).toNat then (s.pc + (imm7.extractLsb' 6 1 ++ imm5.extractLsb' 0 1 ++ imm7.extractLsb' 0 6 ++ imm5.extractLsb' 1 4 ++ 0#1).signExtend 64) else s.pc + 4)) ∧
    (∀ (imm20 : BitVec 20) (imm12 : BitVec 12) (rs1 rd : RegIx),
       WritesFrom (.rvJal imm20 rd) s s s rd (s.pc + 4) (s.pc + (imm20.extractLsb' 19 1 ++ imm20.extractLsb' 0 8 ++ imm20.extractLsb' 8 1 ++ imm20.extractLsb' 9 10 ++ 0#1).signExtend 64) ∧
       WritesFrom (.rvJalr imm12 rs1 rd) s s s rd (s.pc + 4) ((s.readX rs1 + imm12.signExtend 64) &&& ~~~1#64))

/-- O48. The floating-point loads, stores and moves of RV64L. flw and fld bring 4 or 8 bytes to data and to f[fd], flw with the upper half 0; fsw and fsd send f[fs2] to data and its low 4 or 8 bytes to memory; out of range they raise OutOfBounds, a store with data already written. fmv.x.w and fmv.x.d send f[fs1] through data to rd, fmv.x.w with its low half sign-extended; fmv.w.x and fmv.d.x send x[rs1] through data to f[fd], fmv.w.x with the upper half 0; data takes all 64 bits. -/
def Obligations.RvFpMemoryAndMoves : Prop :=
  ∀ (s : State), s.cfg.isa = .rv64l →
    (∀ (imm12 : BitVec 12) (rs1 fd : RegIx) (imm7 : BitVec 7) (fs2 : RegIx) (imm5 : BitVec 5),
       (s.inRange (s.readX rs1 + imm12.signExtend 64) 4 → let v := (loadedBits s (s.readX rs1 + imm12.signExtend 64) 4).setWidth 64; GoesTo (.rvFlw imm12 rs1 fd) s { s.setF fd v with data := v } { s with data := v } (s.pc + 4)) ∧
       (¬ s.inRange (s.readX rs1 + imm12.signExtend 64) 4 → Raises (.rvFlw imm12 rs1 fd) s s .memory (.outOfBounds (s.readX rs1 + imm12.signExtend 64) 4)) ∧
       (s.inRange (s.readX rs1 + imm12.signExtend 64) 8 → let v := (loadedBits s (s.readX rs1 + imm12.signExtend 64) 8).setWidth 64; GoesTo (.rvFld imm12 rs1 fd) s { s.setF fd v with data := v } { s with data := v } (s.pc + 4)) ∧
       (¬ s.inRange (s.readX rs1 + imm12.signExtend 64) 8 → Raises (.rvFld imm12 rs1 fd) s s .memory (.outOfBounds (s.readX rs1 + imm12.signExtend 64) 8)) ∧
       Stores (.rvFsw imm7 fs2 rs1 imm5) s { s with data := s.readF fs2 } (s.readX rs1 + (imm7 ++ imm5).signExtend 64) 4 (s.readF fs2) ∧
       Stores (.rvFsd imm7 fs2 rs1 imm5) s { s with data := s.readF fs2 } (s.readX rs1 + (imm7 ++ imm5).signExtend 64) 8 (s.readF fs2)) ∧
    (∀ (fs1 rs1 rd fd : RegIx),
       WritesFrom (.rvFmvXW fs1 rd) s { s with data := s.readF fs1 } { s with data := s.readF fs1 } rd (sext32 (s.readF fs1)) (s.pc + 4) ∧
       WritesFrom (.rvFmvXD fs1 rd) s { s with data := s.readF fs1 } { s with data := s.readF fs1 } rd (s.readF fs1) (s.pc + 4) ∧
       GoesTo (.rvFmvWX rs1 fd) s { s.setF fd (((s.readX rs1).setWidth 32).setWidth 64) with data := s.readX rs1 } { s with data := s.readX rs1 } (s.pc + 4) ∧
       GoesTo (.rvFmvDX rs1 fd) s { s.setF fd (s.readX rs1) with data := s.readX rs1 } { s with data := s.readX rs1 } (s.pc + 4))

/-- O49. The rounded floating-point arithmetic of RV64L. fadd always, and fsub, fmul, fdiv, fsqrt in both widths where the instance completes them, write the function of 47_fp_numerics.md to f[fd], a word result with the upper half 0, in the rounding mode that funct3 names (000 RNE, 001 RTZ, 010 RDN, 011 RUP, 100 RMM, 111 RNE); where the instance reports them the latter raise UnimplementedFpuOp in Execute. With funct3 101 or 110 the word of any of them is no instruction but an inert word. -/
def Obligations.RvFpArithmetic : Prop :=
  ∀ (s : State), s.cfg.isa = .rv64l →
    (∀ (rm : BitVec 3) (m : Round), (rm, m) ∈ [(0b000#3, Round.rne), (0b001#3, .rtz), (0b010#3, .rdn), (0b011#3, .rup), (0b100#3, .rmm), (0b111#3, .rne)] → ∀ (fs2 fs1 fd : RegIx),
       ComputesFloat (.rvFaddS fs2 fs1 rm fd) s .word fd (fpAdd .word m (s.readF fs1) (s.readF fs2)) ∧
       ComputesFloat (.rvFaddD fs2 fs1 rm fd) s .double fd (fpAdd .double m (s.readF fs1) (s.readF fs2)) ∧
       WhenCompleted (.rvFsubS fs2 fs1 rm fd) s (.fpu .fSub) (ComputesFloat (.rvFsubS fs2 fs1 rm fd) s .word fd (fpSub .word m (s.readF fs1) (s.readF fs2))) ∧
       WhenCompleted (.rvFsubD fs2 fs1 rm fd) s (.fpu .fSub) (ComputesFloat (.rvFsubD fs2 fs1 rm fd) s .double fd (fpSub .double m (s.readF fs1) (s.readF fs2))) ∧
       WhenCompleted (.rvFmulS fs2 fs1 rm fd) s (.fpu .fMul) (ComputesFloat (.rvFmulS fs2 fs1 rm fd) s .word fd (fpMul .word m (s.readF fs1) (s.readF fs2))) ∧
       WhenCompleted (.rvFmulD fs2 fs1 rm fd) s (.fpu .fMul) (ComputesFloat (.rvFmulD fs2 fs1 rm fd) s .double fd (fpMul .double m (s.readF fs1) (s.readF fs2))) ∧
       WhenCompleted (.rvFdivS fs2 fs1 rm fd) s (.fpu .fDiv) (ComputesFloat (.rvFdivS fs2 fs1 rm fd) s .word fd (fpDiv .word m (s.readF fs1) (s.readF fs2))) ∧
       WhenCompleted (.rvFdivD fs2 fs1 rm fd) s (.fpu .fDiv) (ComputesFloat (.rvFdivD fs2 fs1 rm fd) s .double fd (fpDiv .double m (s.readF fs1) (s.readF fs2))) ∧
       WhenCompleted (.rvFsqrtS fs1 rm fd) s (.fpu .fSqrt) (ComputesFloat (.rvFsqrtS fs1 rm fd) s .word fd (fpSqrt .word m (s.readF fs1))) ∧
       WhenCompleted (.rvFsqrtD fs1 rm fd) s (.fpu .fSqrt) (ComputesFloat (.rvFsqrtD fs1 rm fd) s .double fd (fpSqrt .double m (s.readF fs1)))) ∧
    (∀ (rm : BitVec 3), rm = 0b101 ∨ rm = 0b110 → ∀ (fs2 fs1 fd : RegIx),
       decode .rv64l (encode (.rvFaddS fs2 fs1 rm fd)) = .inert (Instr.rvFaddS fs2 fs1 rm fd).record ∧
       decode .rv64l (encode (.rvFaddD fs2 fs1 rm fd)) = .inert (Instr.rvFaddD fs2 fs1 rm fd).record ∧
       decode .rv64l (encode (.rvFsubS fs2 fs1 rm fd)) = .inert (Instr.rvFsubS fs2 fs1 rm fd).record ∧
       decode .rv64l (encode (.rvFsubD fs2 fs1 rm fd)) = .inert (Instr.rvFsubD fs2 fs1 rm fd).record ∧
       decode .rv64l (encode (.rvFmulS fs2 fs1 rm fd)) = .inert (Instr.rvFmulS fs2 fs1 rm fd).record ∧
       decode .rv64l (encode (.rvFmulD fs2 fs1 rm fd)) = .inert (Instr.rvFmulD fs2 fs1 rm fd).record ∧
       decode .rv64l (encode (.rvFdivS fs2 fs1 rm fd)) = .inert (Instr.rvFdivS fs2 fs1 rm fd).record ∧
       decode .rv64l (encode (.rvFdivD fs2 fs1 rm fd)) = .inert (Instr.rvFdivD fs2 fs1 rm fd).record ∧
       decode .rv64l (encode (.rvFsqrtS fs1 rm fd)) = .inert (Instr.rvFsqrtS fs1 rm fd).record ∧
       decode .rv64l (encode (.rvFsqrtD fs1 rm fd)) = .inert (Instr.rvFsqrtD fs1 rm fd).record)

/-- O50. The fused multiply-adds of RV64L. fmadd, fmsub, fnmsub, fnmadd in both widths, where the instance completes them, write the fused function, with one rounding in the mode that funct3 names (000 RNE, 001 RTZ, 010 RDN, 011 RUP, 100 RMM, 111 RNE), to f[fd]; where it reports them they raise UnimplementedFpuOp in Execute. With funct3 101 or 110 the word of any of them is no instruction but an inert word. -/
def Obligations.RvFpFused : Prop :=
  ∀ (s : State), s.cfg.isa = .rv64l →
    (∀ (rm : BitVec 3) (m : Round), (rm, m) ∈ [(0b000#3, Round.rne), (0b001#3, .rtz), (0b010#3, .rdn), (0b011#3, .rup), (0b100#3, .rmm), (0b111#3, .rne)] → ∀ (fs3 fs2 fs1 fd : RegIx),
       WhenCompleted (.rvFmaddS fs3 fs2 fs1 rm fd) s (.fpu .fMadd) (ComputesFloat (.rvFmaddS fs3 fs2 fs1 rm fd) s .word fd (fpMadd .word m (s.readF fs1) (s.readF fs2) (s.readF fs3))) ∧
       WhenCompleted (.rvFmaddD fs3 fs2 fs1 rm fd) s (.fpu .fMadd) (ComputesFloat (.rvFmaddD fs3 fs2 fs1 rm fd) s .double fd (fpMadd .double m (s.readF fs1) (s.readF fs2) (s.readF fs3))) ∧
       WhenCompleted (.rvFmsubS fs3 fs2 fs1 rm fd) s (.fpu .fMsub) (ComputesFloat (.rvFmsubS fs3 fs2 fs1 rm fd) s .word fd (fpMsub .word m (s.readF fs1) (s.readF fs2) (s.readF fs3))) ∧
       WhenCompleted (.rvFmsubD fs3 fs2 fs1 rm fd) s (.fpu .fMsub) (ComputesFloat (.rvFmsubD fs3 fs2 fs1 rm fd) s .double fd (fpMsub .double m (s.readF fs1) (s.readF fs2) (s.readF fs3))) ∧
       WhenCompleted (.rvFnmsubS fs3 fs2 fs1 rm fd) s (.fpu .fNmsub) (ComputesFloat (.rvFnmsubS fs3 fs2 fs1 rm fd) s .word fd (fpNmsub .word m (s.readF fs1) (s.readF fs2) (s.readF fs3))) ∧
       WhenCompleted (.rvFnmsubD fs3 fs2 fs1 rm fd) s (.fpu .fNmsub) (ComputesFloat (.rvFnmsubD fs3 fs2 fs1 rm fd) s .double fd (fpNmsub .double m (s.readF fs1) (s.readF fs2) (s.readF fs3))) ∧
       WhenCompleted (.rvFnmaddS fs3 fs2 fs1 rm fd) s (.fpu .fNmadd) (ComputesFloat (.rvFnmaddS fs3 fs2 fs1 rm fd) s .word fd (fpNmadd .word m (s.readF fs1) (s.readF fs2) (s.readF fs3))) ∧
       WhenCompleted (.rvFnmaddD fs3 fs2 fs1 rm fd) s (.fpu .fNmadd) (ComputesFloat (.rvFnmaddD fs3 fs2 fs1 rm fd) s .double fd (fpNmadd .double m (s.readF fs1) (s.readF fs2) (s.readF fs3)))) ∧
    (∀ (rm : BitVec 3), rm = 0b101 ∨ rm = 0b110 → ∀ (fs3 fs2 fs1 fd : RegIx),
       decode .rv64l (encode (.rvFmaddS fs3 fs2 fs1 rm fd)) = .inert (Instr.rvFmaddS fs3 fs2 fs1 rm fd).record ∧
       decode .rv64l (encode (.rvFmaddD fs3 fs2 fs1 rm fd)) = .inert (Instr.rvFmaddD fs3 fs2 fs1 rm fd).record ∧
       decode .rv64l (encode (.rvFmsubS fs3 fs2 fs1 rm fd)) = .inert (Instr.rvFmsubS fs3 fs2 fs1 rm fd).record ∧
       decode .rv64l (encode (.rvFmsubD fs3 fs2 fs1 rm fd)) = .inert (Instr.rvFmsubD fs3 fs2 fs1 rm fd).record ∧
       decode .rv64l (encode (.rvFnmsubS fs3 fs2 fs1 rm fd)) = .inert (Instr.rvFnmsubS fs3 fs2 fs1 rm fd).record ∧
       decode .rv64l (encode (.rvFnmsubD fs3 fs2 fs1 rm fd)) = .inert (Instr.rvFnmsubD fs3 fs2 fs1 rm fd).record ∧
       decode .rv64l (encode (.rvFnmaddS fs3 fs2 fs1 rm fd)) = .inert (Instr.rvFnmaddS fs3 fs2 fs1 rm fd).record ∧
       decode .rv64l (encode (.rvFnmaddD fs3 fs2 fs1 rm fd)) = .inert (Instr.rvFnmaddD fs3 fs2 fs1 rm fd).record)

/-- O51. The sign injections, minimum and maximum of RV64L. fsgnj, fsgnjn, fsgnjx, fmin, fmax in both widths, where the instance completes them, write their function to f[fd]; where it reports them they raise UnimplementedFpuOp in Execute. -/
def Obligations.RvFpSignAndMinMax : Prop :=
  ∀ (s : State), s.cfg.isa = .rv64l →
    ∀ (fs2 fs1 fd : RegIx),
      WhenCompleted (.rvFsgnjS fs2 fs1 fd) s (.fpu .fSgnj) (ComputesFloat (.rvFsgnjS fs2 fs1 fd) s .word fd (fpSgnj .word (s.readF fs1) (s.readF fs2))) ∧
      WhenCompleted (.rvFsgnjD fs2 fs1 fd) s (.fpu .fSgnj) (ComputesFloat (.rvFsgnjD fs2 fs1 fd) s .double fd (fpSgnj .double (s.readF fs1) (s.readF fs2))) ∧
      WhenCompleted (.rvFsgnjnS fs2 fs1 fd) s (.fpu .fSgnjn) (ComputesFloat (.rvFsgnjnS fs2 fs1 fd) s .word fd (fpSgnjn .word (s.readF fs1) (s.readF fs2))) ∧
      WhenCompleted (.rvFsgnjnD fs2 fs1 fd) s (.fpu .fSgnjn) (ComputesFloat (.rvFsgnjnD fs2 fs1 fd) s .double fd (fpSgnjn .double (s.readF fs1) (s.readF fs2))) ∧
      WhenCompleted (.rvFsgnjxS fs2 fs1 fd) s (.fpu .fSgnjx) (ComputesFloat (.rvFsgnjxS fs2 fs1 fd) s .word fd (fpSgnjx .word (s.readF fs1) (s.readF fs2))) ∧
      WhenCompleted (.rvFsgnjxD fs2 fs1 fd) s (.fpu .fSgnjx) (ComputesFloat (.rvFsgnjxD fs2 fs1 fd) s .double fd (fpSgnjx .double (s.readF fs1) (s.readF fs2))) ∧
      WhenCompleted (.rvFminS fs2 fs1 fd) s (.fpu .fMin) (ComputesFloat (.rvFminS fs2 fs1 fd) s .word fd (fpMin .word (s.readF fs1) (s.readF fs2))) ∧
      WhenCompleted (.rvFminD fs2 fs1 fd) s (.fpu .fMin) (ComputesFloat (.rvFminD fs2 fs1 fd) s .double fd (fpMin .double (s.readF fs1) (s.readF fs2))) ∧
      WhenCompleted (.rvFmaxS fs2 fs1 fd) s (.fpu .fMax) (ComputesFloat (.rvFmaxS fs2 fs1 fd) s .word fd (fpMax .word (s.readF fs1) (s.readF fs2))) ∧
      WhenCompleted (.rvFmaxD fs2 fs1 fd) s (.fpu .fMax) (ComputesFloat (.rvFmaxD fs2 fs1 fd) s .double fd (fpMax .double (s.readF fs1) (s.readF fs2)))

/-- O52. The floating-point comparisons and the classification of RV64L. feq always, and flt and fle where the instance completes them, write 1 or 0 to rd, to data and to the condition code; fclass writes its class bit to rd and data; where the instance reports them flt, fle and fclass raise UnimplementedFpuOp in Execute. -/
def Obligations.RvFpComparesAndClass : Prop :=
  ∀ (s : State), s.cfg.isa = .rv64l →
    ∀ (fs2 fs1 rd : RegIx),
      WritesFrom (.rvFeqS fs2 fs1 rd) s { s with cc := fpEq .word (s.readF fs1) (s.readF fs2), data := if fpEq .word (s.readF fs1) (s.readF fs2) then 1 else 0 } { s with data := if fpEq .word (s.readF fs1) (s.readF fs2) then 1 else 0 } rd (if fpEq .word (s.readF fs1) (s.readF fs2) then 1 else 0) (s.pc + 4) ∧
      WritesFrom (.rvFeqD fs2 fs1 rd) s { s with cc := fpEq .double (s.readF fs1) (s.readF fs2), data := if fpEq .double (s.readF fs1) (s.readF fs2) then 1 else 0 } { s with data := if fpEq .double (s.readF fs1) (s.readF fs2) then 1 else 0 } rd (if fpEq .double (s.readF fs1) (s.readF fs2) then 1 else 0) (s.pc + 4) ∧
      WhenCompleted (.rvFltS fs2 fs1 rd) s (.cmp .cmpLt) (WritesFrom (.rvFltS fs2 fs1 rd) s { s with cc := fpLt .word (s.readF fs1) (s.readF fs2), data := if fpLt .word (s.readF fs1) (s.readF fs2) then 1 else 0 } { s with data := if fpLt .word (s.readF fs1) (s.readF fs2) then 1 else 0 } rd (if fpLt .word (s.readF fs1) (s.readF fs2) then 1 else 0) (s.pc + 4)) ∧
      WhenCompleted (.rvFltD fs2 fs1 rd) s (.cmp .cmpLt) (WritesFrom (.rvFltD fs2 fs1 rd) s { s with cc := fpLt .double (s.readF fs1) (s.readF fs2), data := if fpLt .double (s.readF fs1) (s.readF fs2) then 1 else 0 } { s with data := if fpLt .double (s.readF fs1) (s.readF fs2) then 1 else 0 } rd (if fpLt .double (s.readF fs1) (s.readF fs2) then 1 else 0) (s.pc + 4)) ∧
      WhenCompleted (.rvFleS fs2 fs1 rd) s (.cmp .cmpLe) (WritesFrom (.rvFleS fs2 fs1 rd) s { s with cc := fpLe .word (s.readF fs1) (s.readF fs2), data := if fpLe .word (s.readF fs1) (s.readF fs2) then 1 else 0 } { s with data := if fpLe .word (s.readF fs1) (s.readF fs2) then 1 else 0 } rd (if fpLe .word (s.readF fs1) (s.readF fs2) then 1 else 0) (s.pc + 4)) ∧
      WhenCompleted (.rvFleD fs2 fs1 rd) s (.cmp .cmpLe) (WritesFrom (.rvFleD fs2 fs1 rd) s { s with cc := fpLe .double (s.readF fs1) (s.readF fs2), data := if fpLe .double (s.readF fs1) (s.readF fs2) then 1 else 0 } { s with data := if fpLe .double (s.readF fs1) (s.readF fs2) then 1 else 0 } rd (if fpLe .double (s.readF fs1) (s.readF fs2) then 1 else 0) (s.pc + 4)) ∧
      WhenCompleted (.rvFclassS fs1 rd) s (.fpu .fClass) (WritesFrom (.rvFclassS fs1 rd) s { s with data := fpClass .word (s.readF fs1) } { s with data := fpClass .word (s.readF fs1) } rd (fpClass .word (s.readF fs1)) (s.pc + 4)) ∧
      WhenCompleted (.rvFclassD fs1 rd) s (.fpu .fClass) (WritesFrom (.rvFclassD fs1 rd) s { s with data := fpClass .double (s.readF fs1) } { s with data := fpClass .double (s.readF fs1) } rd (fpClass .double (s.readF fs1)) (s.pc + 4))

/-- O53. The comparisons compare values; with a NaN they are false. With a NaN operand FpEq, FpLt and FpLe are false. Otherwise they hold exactly when the values stand so, an infinity being above or below every other value and equal only to itself; the two zeros have one value, and two other operands are equal exactly when their encodings are. -/
def Obligations.FpCompareValues : Prop :=
  ∀ (w : FpWidth) (a b : Word),
    (fpIsNan w a = true ∨ fpIsNan w b = true → fpEq w a b = false ∧ fpLt w a b = false ∧ fpLe w a b = false) ∧
    (∀ p q, fpValue w a = some p → fpValue w b = some q →
      (fpEq w a b = true ↔ p = q) ∧ (fpLt w a b = true ↔ p < q) ∧ (fpLe w a b = true ↔ p ≤ q)) ∧
    (fpValue w a = none ↔ fpIsNan w a = true) ∧
    (fpIsNan w a = false → fpIsNan w b = false →
      (fpEq w a b = true ↔ w.select a = w.select b ∨ fpMag w a = 0 ∧ fpMag w b = 0))

/-- O54. FpClass sets exactly the bit of its operand's kind. FpClass answers a value with one bit of bits 0 to 9 set and all others 0; bits 0 and 7 are the infinities, 1 and 6 the normal numbers, 2 and 5 the subnormal ones, 3 and 4 the zeros, by sign, and 8 and 9 the signaling and the quiet NaNs. -/
def Obligations.FpClassBits : Prop :=
  ∀ (w : FpWidth) (a : Word), let c := fpClass w a; let expo := fpMag w a / 2 ^ w.fracBits
    let frac := fpMag w a % 2 ^ w.fracBits; let top := 2 ^ w.expBits - 1
    (∃ k < 10, c = 1#64 <<< k) ∧
    (c = 1#64 <<< 0 ↔ expo = top ∧ frac = 0 ∧ fpSign w a = true) ∧
    (c = 1#64 <<< 1 ↔ 0 < expo ∧ expo < top ∧ fpSign w a = true) ∧
    (c = 1#64 <<< 2 ↔ expo = 0 ∧ frac ≠ 0 ∧ fpSign w a = true) ∧
    (c = 1#64 <<< 3 ↔ expo = 0 ∧ frac = 0 ∧ fpSign w a = true) ∧
    (c = 1#64 <<< 4 ↔ expo = 0 ∧ frac = 0 ∧ fpSign w a = false) ∧
    (c = 1#64 <<< 5 ↔ expo = 0 ∧ frac ≠ 0 ∧ fpSign w a = false) ∧
    (c = 1#64 <<< 6 ↔ 0 < expo ∧ expo < top ∧ fpSign w a = false) ∧
    (c = 1#64 <<< 7 ↔ expo = top ∧ frac = 0 ∧ fpSign w a = false) ∧
    (c = 1#64 <<< 8 ↔ expo = top ∧ 0 < frac ∧ frac < 2 ^ (w.fracBits - 1)) ∧
    (c = 1#64 <<< 9 ↔ expo = top ∧ 2 ^ (w.fracBits - 1) ≤ frac)

/-- O55. What the encodings of the two floating-point formats stand for. A word-width operand has the sign in bit 31, the biased exponent in bits 30 to 23 with bias 127 and the fraction in bits 22 to 0, with p = 24, emin = -126 and emax = 127; a double-width one the sign in bit 63, the biased exponent in bits 62 to 52 with bias 1023 and the fraction in bits 51 to 0, with p = 53, emin = -1022 and emax = 1023. A zero exponent stands for a zero by sign or a subnormal number, the highest one for an infinity by sign or a NaN, quiet if the top fraction bit is 1, and every other one for a normal number. The canonical NaN is 0x7FC00000 or 0x7FF8000000000000, and a word-width value is stored with the upper half 0. -/
def Obligations.FpFormats : Prop :=
  (∀ v : Word,
    StandsFor .word v (v.getLsbD 31) (v.extractLsb' 23 8).toNat (v.extractLsb' 0 23).toNat 8 24 (-126) 127 ∧
    StandsFor .double v (v.getLsbD 63) (v.extractLsb' 52 11).toNat (v.extractLsb' 0 52).toNat 11 53 (-1022) 1023 ∧
    fpSign .word v = v.getLsbD 31 ∧ fpSign .double v = v.getLsbD 63 ∧
    fpMag .word v = (v.extractLsb' 0 31).toNat ∧ fpMag .double v = (v.extractLsb' 0 63).toNat ∧
    fpStored .word v = v &&& 0xFFFFFFFF ∧ fpStored .double v = v) ∧
  FpWidth.word.precision = 24 ∧ FpWidth.word.emin = -126 ∧ FpWidth.word.emax = 127 ∧
  FpWidth.double.precision = 53 ∧ FpWidth.double.emin = -1022 ∧ FpWidth.double.emax = 1023 ∧
  cnan .word = 0x7FC00000 ∧ cnan .double = 0x7FF8000000000000

/-- O56. What addition and subtraction compute. Addition case by case: a NaN gives the canonical NaN; two infinities the same infinity or the canonical NaN; one infinity that infinity; two zeros that zero, or with opposite signs and for an exact cancellation +0 (-0 under RDN); otherwise the exact sum rounded in the mode. It is commutative. Subtraction is addition of the second operand with its sign bit inverted. Of the rounding under RDN it also says by itself: a finite result is at most the exact sum and no finite encoding has a value between the two. -/
def Obligations.FpAddAndSub : Prop :=
  ∀ (w : FpWidth) (rm : Round) (a b : Word),
    ((∃ t, fpVal w a = .nan t ∨ fpVal w b = .nan t) → fpAdd w rm a b = cnan w) ∧
    (∀ sa sb, fpVal w a = .inf sa → fpVal w b = .inf sb →
      (sa = sb → IsVal w (fpAdd w rm a b) (.inf sa)) ∧ (sa ≠ sb → fpAdd w rm a b = cnan w)) ∧
    (∀ sa sb n, fpVal w a = .inf sa → fpVal w b = .fin sb n → IsVal w (fpAdd w rm a b) (.inf sa)) ∧
    (∀ sa sb n, fpVal w a = .fin sa n → fpVal w b = .inf sb → IsVal w (fpAdd w rm a b) (.inf sb)) ∧
    (∀ sa sb, fpVal w a = .fin sa 0 → fpVal w b = .fin sb 0 →
      IsVal w (fpAdd w rm a b) (.fin (if sa = sb then sa else decide (rm = .rdn)) 0)) ∧
    (∀ p q, fpRat w a = some p → fpRat w b = some q →
      (p ≠ 0 → p + q = 0 → IsVal w (fpAdd w rm a b) (.fin (decide (rm = .rdn)) 0)) ∧
      (p + q ≠ 0 → Rounds w rm ((p : ℝ) + q) (fpAdd w rm a b))) ∧
    fpAdd w rm a b = fpAdd w rm b a ∧
    fpSub w rm a b = fpAdd w rm a (flipSign w b) ∧
    (∀ p q r : ℚ, fpRat w a = some p → fpRat w b = some q → fpRat w (fpAdd w .rdn a b) = some r →
      r ≤ p + q ∧ ∀ (c : Word) (x : ℚ), fpRat w c = some x → x ≤ p + q → x ≤ r) ∧
    fpAdd .word .rne 0x3FC00000 0x40200000 = 0x40800000

/-- O57. What multiplication and division compute. Multiplication case by case: a NaN, or an infinity and a zero, give the canonical NaN; another infinity gives the infinity and another zero the zero of the sign of the product; otherwise the exact product rounded in the mode. Division: a NaN, two infinities or two zeros give the canonical NaN; an infinite dividend or a zero divisor the infinity, and an infinite divisor or a zero dividend the zero, of the sign of the quotient; otherwise the exact quotient rounded in the mode. -/
def Obligations.FpMulAndDiv : Prop :=
  ∀ (w : FpWidth) (rm : Round) (a b : Word), let s := signBit w a ^^ signBit w b
    ((∃ t, fpVal w a = .nan t ∨ fpVal w b = .nan t) → fpMul w rm a b = cnan w ∧ fpDiv w rm a b = cnan w) ∧
    (∀ sa sb, fpVal w a = .inf sa → fpVal w b = .inf sb → IsVal w (fpMul w rm a b) (.inf s) ∧ fpDiv w rm a b = cnan w) ∧
    (∀ sa sb n, fpVal w a = .inf sa → fpVal w b = .fin sb n →
      (n = 0 → fpMul w rm a b = cnan w) ∧ (n ≠ 0 → IsVal w (fpMul w rm a b) (.inf s)) ∧
      IsVal w (fpDiv w rm a b) (.inf s)) ∧
    (∀ sa sb n, fpVal w a = .fin sa n → fpVal w b = .inf sb →
      (n = 0 → fpMul w rm a b = cnan w) ∧ (n ≠ 0 → IsVal w (fpMul w rm a b) (.inf s)) ∧
      IsVal w (fpDiv w rm a b) (.fin s 0)) ∧
    (∀ p q, fpRat w a = some p → fpRat w b = some q →
      (p = 0 ∨ q = 0 → IsVal w (fpMul w rm a b) (.fin s 0)) ∧
      (p ≠ 0 → q ≠ 0 → Rounds w rm ((p : ℝ) * q) (fpMul w rm a b)) ∧
      (p = 0 → q = 0 → fpDiv w rm a b = cnan w) ∧
      (p ≠ 0 → q = 0 → IsVal w (fpDiv w rm a b) (.inf s)) ∧
      (p = 0 → q ≠ 0 → IsVal w (fpDiv w rm a b) (.fin s 0)) ∧
      (p ≠ 0 → q ≠ 0 → Rounds w rm ((p : ℝ) / q) (fpDiv w rm a b)))

/-- O58. What the square root computes, and the integer root under it. Case by case: a NaN and any negative value, minus infinity among them, give the canonical NaN; a zero gives itself and plus infinity itself; otherwise the exact root is rounded in the mode; the second operand is ignored. The bitwise integer square root it rounds from is the largest natural number whose square is at most its argument. The root of the rule is the exact one (R663); that clause about the model's own helper isqrt is no rule of the spec. -/
def Obligations.FpSquareRoot : Prop :=
  (∀ (w : FpWidth) (rm : Round) (a b c : Word),
    (∀ t, fpVal w a = .nan t → fpSqrt w rm a = cnan w) ∧
    (∀ s, fpVal w a = .fin s 0 → IsVal w (fpSqrt w rm a) (.fin s 0)) ∧
    (fpVal w a = .inf false → IsVal w (fpSqrt w rm a) (.inf false)) ∧
    (fpVal w a = .inf true → fpSqrt w rm a = cnan w) ∧
    (∀ p, fpRat w a = some p → (p < 0 → fpSqrt w rm a = cnan w) ∧ (0 < p → Rounds w rm √(p : ℝ) (fpSqrt w rm a))) ∧
    fpuFunction .fSqrt w rm a b c = fpSqrt w rm a) ∧
  (∀ n : Nat, isqrt n * isqrt n ≤ n ∧ n < (isqrt n + 1) * (isqrt n + 1))

/-- O59. What minimum, maximum and sign injection compute. Minimum and maximum: of two NaNs the canonical NaN, of one NaN and another operand the other, unchanged; otherwise a copy of the operand with the lesser or the greater value, where -0 counts as less than +0; of two identical operands that encoding; a word result has the upper half 0. Sign injection: the sign bit of the second operand, that bit inverted, or the exclusive or of both sign bits, above all other bits of the first operand, in the selected width. -/
def Obligations.FpMinMaxAndSignInjection : Prop :=
  (∀ (w : FpWidth) (a b : Word),
    (∀ s t, fpVal w a = .nan s → fpVal w b = .nan t → fpMin w a b = cnan w ∧ fpMax w a b = cnan w) ∧
    (∀ t y, fpVal w a = .nan t → fpValue w b = some y → fpMin w a b = fpStored w b ∧ fpMax w a b = fpStored w b) ∧
    (∀ t x, fpValue w a = some x → fpVal w b = .nan t → fpMin w a b = fpStored w a ∧ fpMax w a b = fpStored w a) ∧
    (∀ x y, fpValue w a = some x → fpValue w b = some y →
      (x < y → fpMin w a b = fpStored w a ∧ fpMax w a b = fpStored w b) ∧
      (y < x → fpMin w a b = fpStored w b ∧ fpMax w a b = fpStored w a)) ∧
    (fpVal w a = .fin true 0 → fpVal w b = .fin false 0 → fpMin w a b = fpStored w a ∧ fpMax w a b = fpStored w b) ∧
    (fpVal w a = .fin false 0 → fpVal w b = .fin true 0 → fpMin w a b = fpStored w b ∧ fpMax w a b = fpStored w a) ∧
    (∀ x, fpValue w a = some x → fpStored w a = fpStored w b →
      fpMin w a b = fpStored w a ∧ fpMax w a b = fpStored w a)) ∧
  (∀ a b : Word,
    fpSgnj .word a b = (b.extractLsb' 31 1 ++ a.extractLsb' 0 31).setWidth 64 ∧
    fpSgnjn .word a b = (~~~(b.extractLsb' 31 1) ++ a.extractLsb' 0 31).setWidth 64 ∧
    fpSgnjx .word a b = ((a.extractLsb' 31 1 ^^^ b.extractLsb' 31 1) ++ a.extractLsb' 0 31).setWidth 64 ∧
    fpSgnj .double a b = b.extractLsb' 63 1 ++ a.extractLsb' 0 63 ∧
    fpSgnjn .double a b = ~~~(b.extractLsb' 63 1) ++ a.extractLsb' 0 63 ∧
    fpSgnjx .double a b = (a.extractLsb' 63 1 ^^^ b.extractLsb' 63 1) ++ a.extractLsb' 0 63)

/-- O60. What the fused multiply-add computes. Case by case, with one rounding: a NaN, an infinity times a zero, or an infinite product and the opposite infinity give the canonical NaN; another infinite product gives the infinity of its sign; a finite product and an infinity give that infinity; a zero product and a zero give the zero of their common sign, or +0 (-0 under RDN); a zero product and another number that number unchanged; an exact cancellation +0 (-0 under RDN); otherwise the exact value is rounded in the mode. The four operations are it with the sign bits of the first and the third operand as they are or inverted. -/
def Obligations.FpFusedMultiplyAdd : Prop :=
  ∀ (w : FpWidth) (rm : Round) (a b c : Word), let s := signBit w a ^^ signBit w b
    let infTimesNonzero := ∃ sa sb n, n ≠ 0 ∧
      (fpVal w a = .inf sa ∧ (fpVal w b = .inf sb ∨ fpVal w b = .fin sb n) ∨ fpVal w a = .fin sa n ∧ fpVal w b = .inf sb)
    ((∃ t, fpVal w a = .nan t ∨ fpVal w b = .nan t ∨ fpVal w c = .nan t) → fma w rm a b c = cnan w) ∧
    (∀ sa sb, fpVal w a = .inf sa ∧ fpVal w b = .fin sb 0 ∨ fpVal w a = .fin sa 0 ∧ fpVal w b = .inf sb →
      fma w rm a b c = cnan w) ∧
    (infTimesNonzero →
      (fpVal w c = .inf (!s) → fma w rm a b c = cnan w) ∧
      (fpVal w c ≠ .inf (!s) → (∀ t, fpVal w c ≠ .nan t) → IsVal w (fma w rm a b c) (.inf s))) ∧
    (∀ p q, fpRat w a = some p → fpRat w b = some q →
      (∀ sc, fpVal w c = .inf sc → IsVal w (fma w rm a b c) (.inf sc)) ∧
      (p = 0 ∨ q = 0 →
        (∀ sc, fpVal w c = .fin sc 0 → IsVal w (fma w rm a b c) (.fin (if sc = s then s else decide (rm = .rdn)) 0)) ∧
        (∀ sc n, fpVal w c = .fin sc n → n ≠ 0 → fma w rm a b c = fpStored w c)) ∧
      (∀ z, fpRat w c = some z → p ≠ 0 → q ≠ 0 →
        (p * q + z = 0 → IsVal w (fma w rm a b c) (.fin (decide (rm = .rdn)) 0)) ∧
        (p * q + z ≠ 0 → Rounds w rm ((p : ℝ) * q + z) (fma w rm a b c)))) ∧
    fpMadd w rm a b c = fma w rm a b c ∧ fpMsub w rm a b c = fma w rm a b (flipSign w c) ∧
    fpNmsub w rm a b c = fma w rm (flipSign w a) b c ∧ fpNmadd w rm a b c = fma w rm (flipSign w a) b (flipSign w c)
end

