-- ==== Sys2Proof/Laws/State.lean ====
section
/-! SUPPORT. What each named update does to each field of the state: one lemma per field per update. -/

namespace Sys2Proof.Machine

@[simp] theorem State.setX_cfg (s : State) (i : RegIx) (v : Word) : (s.setX i v).cfg = s.cfg := by unfold State.setX; split <;> rfl
@[simp] theorem State.setX_pc (s : State) (i : RegIx) (v : Word) : (s.setX i v).pc = s.pc := by unfold State.setX; split <;> rfl
@[simp] theorem State.setX_progEnd (s : State) (i : RegIx) (v : Word) : (s.setX i v).progEnd = s.progEnd := by unfold State.setX; split <;> rfl
@[simp] theorem State.setX_f (s : State) (i : RegIx) (v : Word) : (s.setX i v).f = s.f := by unfold State.setX; split <;> rfl
@[simp] theorem State.setX_cc (s : State) (i : RegIx) (v : Word) : (s.setX i v).cc = s.cc := by unfold State.setX; split <;> rfl
@[simp] theorem State.setX_data (s : State) (i : RegIx) (v : Word) : (s.setX i v).data = s.data := by unfold State.setX; split <;> rfl
@[simp] theorem State.setX_mem (s : State) (i : RegIx) (v : Word) : (s.setX i v).mem = s.mem := by unfold State.setX; split <;> rfl
@[simp] theorem State.setX_run (s : State) (i : RegIx) (v : Word) : (s.setX i v).run = s.run := by unfold State.setX; split <;> rfl
@[simp] theorem State.setX_stage (s : State) (i : RegIx) (v : Word) : (s.setX i v).stage = s.stage := by unfold State.setX; split <;> rfl
@[simp] theorem State.setX_fault (s : State) (i : RegIx) (v : Word) : (s.setX i v).fault = s.fault := by unfold State.setX; split <;> rfl
@[simp] theorem State.setX_lat (s : State) (i : RegIx) (v : Word) : (s.setX i v).lat = s.lat := by unfold State.setX; split <;> rfl

@[simp] theorem State.setF_cfg (s : State) (i : RegIx) (v : Word) : (s.setF i v).cfg = s.cfg := rfl
@[simp] theorem State.setF_x (s : State) (i : RegIx) (v : Word) : (s.setF i v).x = s.x := rfl
@[simp] theorem State.setF_pc (s : State) (i : RegIx) (v : Word) : (s.setF i v).pc = s.pc := rfl
@[simp] theorem State.setF_progEnd (s : State) (i : RegIx) (v : Word) : (s.setF i v).progEnd = s.progEnd := rfl
@[simp] theorem State.setF_f (s : State) (i : RegIx) (v : Word) : (s.setF i v).f = s.f.set i.toNat v i.isLt := rfl
@[simp] theorem State.setF_cc (s : State) (i : RegIx) (v : Word) : (s.setF i v).cc = s.cc := rfl
@[simp] theorem State.setF_data (s : State) (i : RegIx) (v : Word) : (s.setF i v).data = s.data := rfl
@[simp] theorem State.setF_mem (s : State) (i : RegIx) (v : Word) : (s.setF i v).mem = s.mem := rfl
@[simp] theorem State.setF_run (s : State) (i : RegIx) (v : Word) : (s.setF i v).run = s.run := rfl
@[simp] theorem State.setF_stage (s : State) (i : RegIx) (v : Word) : (s.setF i v).stage = s.stage := rfl
@[simp] theorem State.setF_fault (s : State) (i : RegIx) (v : Word) : (s.setF i v).fault = s.fault := rfl
@[simp] theorem State.setF_lat (s : State) (i : RegIx) (v : Word) : (s.setF i v).lat = s.lat := rfl

@[simp] theorem State.writeF_cfg (s : State) (w : FpWidth) (i : RegIx) (v : Word) : (s.writeF w i v).cfg = s.cfg := rfl
@[simp] theorem State.writeF_x (s : State) (w : FpWidth) (i : RegIx) (v : Word) : (s.writeF w i v).x = s.x := rfl
@[simp] theorem State.writeF_pc (s : State) (w : FpWidth) (i : RegIx) (v : Word) : (s.writeF w i v).pc = s.pc := rfl
@[simp] theorem State.writeF_progEnd (s : State) (w : FpWidth) (i : RegIx) (v : Word) : (s.writeF w i v).progEnd = s.progEnd := rfl
@[simp] theorem State.writeF_f (s : State) (w : FpWidth) (i : RegIx) (v : Word) : (s.writeF w i v).f = s.f.set i.toNat (fpStored w v) i.isLt := rfl
@[simp] theorem State.writeF_cc (s : State) (w : FpWidth) (i : RegIx) (v : Word) : (s.writeF w i v).cc = s.cc := rfl
@[simp] theorem State.writeF_data (s : State) (w : FpWidth) (i : RegIx) (v : Word) : (s.writeF w i v).data = s.data := rfl
@[simp] theorem State.writeF_mem (s : State) (w : FpWidth) (i : RegIx) (v : Word) : (s.writeF w i v).mem = s.mem := rfl
@[simp] theorem State.writeF_run (s : State) (w : FpWidth) (i : RegIx) (v : Word) : (s.writeF w i v).run = s.run := rfl
@[simp] theorem State.writeF_stage (s : State) (w : FpWidth) (i : RegIx) (v : Word) : (s.writeF w i v).stage = s.stage := rfl
@[simp] theorem State.writeF_fault (s : State) (w : FpWidth) (i : RegIx) (v : Word) : (s.writeF w i v).fault = s.fault := rfl
@[simp] theorem State.writeF_lat (s : State) (w : FpWidth) (i : RegIx) (v : Word) : (s.writeF w i v).lat = s.lat := rfl

@[simp] theorem State.raise_cfg (s : State) (k : ErrKind) (w : Word32) : (s.raise k w).cfg = s.cfg := rfl
@[simp] theorem State.raise_x (s : State) (k : ErrKind) (w : Word32) : (s.raise k w).x = s.x := rfl
@[simp] theorem State.raise_pc (s : State) (k : ErrKind) (w : Word32) : (s.raise k w).pc = s.pc := rfl
@[simp] theorem State.raise_progEnd (s : State) (k : ErrKind) (w : Word32) : (s.raise k w).progEnd = s.progEnd := rfl
@[simp] theorem State.raise_f (s : State) (k : ErrKind) (w : Word32) : (s.raise k w).f = s.f := rfl
@[simp] theorem State.raise_cc (s : State) (k : ErrKind) (w : Word32) : (s.raise k w).cc = s.cc := rfl
@[simp] theorem State.raise_data (s : State) (k : ErrKind) (w : Word32) : (s.raise k w).data = s.data := rfl
@[simp] theorem State.raise_mem (s : State) (k : ErrKind) (w : Word32) : (s.raise k w).mem = s.mem := rfl
@[simp] theorem State.raise_run (s : State) (k : ErrKind) (w : Word32) : (s.raise k w).run = s.run := rfl
@[simp] theorem State.raise_stage (s : State) (k : ErrKind) (w : Word32) : (s.raise k w).stage = s.stage := rfl
@[simp] theorem State.raise_fault (s : State) (k : ErrKind) (w : Word32) : (s.raise k w).fault = some { kind := k, pc := s.pc, word := w, stage := s.stage } := rfl
@[simp] theorem State.raise_lat (s : State) (k : ErrKind) (w : Word32) : (s.raise k w).lat = s.lat := rfl

@[simp] theorem latchDecode_cfg (r : Record) (w : Word32) (v : Vectors) (s : State) : (latchDecode r w v s).cfg = s.cfg := rfl
@[simp] theorem latchDecode_x (r : Record) (w : Word32) (v : Vectors) (s : State) : (latchDecode r w v s).x = s.x := rfl
@[simp] theorem latchDecode_pc (r : Record) (w : Word32) (v : Vectors) (s : State) : (latchDecode r w v s).pc = s.pc := rfl
@[simp] theorem latchDecode_progEnd (r : Record) (w : Word32) (v : Vectors) (s : State) : (latchDecode r w v s).progEnd = s.progEnd := rfl
@[simp] theorem latchDecode_f (r : Record) (w : Word32) (v : Vectors) (s : State) : (latchDecode r w v s).f = s.f := rfl
@[simp] theorem latchDecode_cc (r : Record) (w : Word32) (v : Vectors) (s : State) : (latchDecode r w v s).cc = s.cc := rfl
@[simp] theorem latchDecode_data (r : Record) (w : Word32) (v : Vectors) (s : State) : (latchDecode r w v s).data = s.data := rfl
@[simp] theorem latchDecode_mem (r : Record) (w : Word32) (v : Vectors) (s : State) : (latchDecode r w v s).mem = s.mem := rfl
@[simp] theorem latchDecode_run (r : Record) (w : Word32) (v : Vectors) (s : State) : (latchDecode r w v s).run = s.run := rfl
@[simp] theorem latchDecode_stage (r : Record) (w : Word32) (v : Vectors) (s : State) : (latchDecode r w v s).stage = .execute := rfl
@[simp] theorem latchDecode_fault (r : Record) (w : Word32) (v : Vectors) (s : State) : (latchDecode r w v s).fault = s.fault := rfl

@[simp] theorem writeCc_cfg (s : State) : (writeCc s).cfg = s.cfg := rfl
@[simp] theorem writeCc_x (s : State) : (writeCc s).x = s.x := rfl
@[simp] theorem writeCc_pc (s : State) : (writeCc s).pc = s.pc := rfl
@[simp] theorem writeCc_progEnd (s : State) : (writeCc s).progEnd = s.progEnd := rfl
@[simp] theorem writeCc_f (s : State) : (writeCc s).f = s.f := rfl
@[simp] theorem writeCc_cc (s : State) : (writeCc s).cc = if s.lat.fs.ccWrite then s.lat.cmpResult else s.cc := rfl
@[simp] theorem writeCc_data (s : State) : (writeCc s).data = s.data := rfl
@[simp] theorem writeCc_mem (s : State) : (writeCc s).mem = s.mem := rfl
@[simp] theorem writeCc_run (s : State) : (writeCc s).run = s.run := rfl
@[simp] theorem writeCc_stage (s : State) : (writeCc s).stage = s.stage := rfl
@[simp] theorem writeCc_fault (s : State) : (writeCc s).fault = s.fault := rfl
@[simp] theorem writeCc_lat (s : State) : (writeCc s).lat = s.lat := rfl

@[simp] theorem writeRun_cfg (s : State) : (writeRun s).cfg = s.cfg := rfl
@[simp] theorem writeRun_x (s : State) : (writeRun s).x = s.x := rfl
@[simp] theorem writeRun_pc (s : State) : (writeRun s).pc = s.pc := rfl
@[simp] theorem writeRun_progEnd (s : State) : (writeRun s).progEnd = s.progEnd := rfl
@[simp] theorem writeRun_f (s : State) : (writeRun s).f = s.f := rfl
@[simp] theorem writeRun_cc (s : State) : (writeRun s).cc = s.cc := rfl
@[simp] theorem writeRun_data (s : State) : (writeRun s).data = s.data := rfl
@[simp] theorem writeRun_mem (s : State) : (writeRun s).mem = s.mem := rfl
@[simp] theorem writeRun_run (s : State) : (writeRun s).run = if s.lat.cs.halt then .halted else s.run := rfl
@[simp] theorem writeRun_stage (s : State) : (writeRun s).stage = s.stage := rfl
@[simp] theorem writeRun_fault (s : State) : (writeRun s).fault = s.fault := rfl
@[simp] theorem writeRun_lat (s : State) : (writeRun s).lat = s.lat := rfl

@[simp] theorem writeFloat_cfg (s : State) : (writeFloat s).cfg = s.cfg := by unfold writeFloat; split <;> rfl
@[simp] theorem writeFloat_x (s : State) : (writeFloat s).x = s.x := by unfold writeFloat; split <;> rfl
@[simp] theorem writeFloat_pc (s : State) : (writeFloat s).pc = s.pc := by unfold writeFloat; split <;> rfl
@[simp] theorem writeFloat_progEnd (s : State) : (writeFloat s).progEnd = s.progEnd := by unfold writeFloat; split <;> rfl
@[simp] theorem writeFloat_cc (s : State) : (writeFloat s).cc = s.cc := by unfold writeFloat; split <;> rfl
@[simp] theorem writeFloat_data (s : State) : (writeFloat s).data = s.data := by unfold writeFloat; split <;> rfl
@[simp] theorem writeFloat_mem (s : State) : (writeFloat s).mem = s.mem := by unfold writeFloat; split <;> rfl
@[simp] theorem writeFloat_run (s : State) : (writeFloat s).run = s.run := by unfold writeFloat; split <;> rfl
@[simp] theorem writeFloat_stage (s : State) : (writeFloat s).stage = s.stage := by unfold writeFloat; split <;> rfl
@[simp] theorem writeFloat_fault (s : State) : (writeFloat s).fault = s.fault := by unfold writeFloat; split <;> rfl
@[simp] theorem writeFloat_lat (s : State) : (writeFloat s).lat = s.lat := by unfold writeFloat; split <;> rfl

@[simp] theorem latchDecode_lat_ir (r : Record) (w : Word32) (v : Vectors) (s : State) : (latchDecode r w v s).lat.ir = w := rfl
@[simp] theorem latchDecode_lat_instr (r : Record) (w : Word32) (v : Vectors) (s : State) : (latchDecode r w v s).lat.instr = some r := rfl
@[simp] theorem latchDecode_lat_cs (r : Record) (w : Word32) (v : Vectors) (s : State) : (latchDecode r w v s).lat.cs = v.cs := rfl
@[simp] theorem latchDecode_lat_fs (r : Record) (w : Word32) (v : Vectors) (s : State) : (latchDecode r w v s).lat.fs = v.fs := rfl
@[simp] theorem latchDecode_lat_rs1Val (r : Record) (w : Word32) (v : Vectors) (s : State) : (latchDecode r w v s).lat.rs1Val = readSlot1 s r w := rfl
@[simp] theorem latchDecode_lat_rs2Val (r : Record) (w : Word32) (v : Vectors) (s : State) : (latchDecode r w v s).lat.rs2Val = readSlot2 s r w := rfl
@[simp] theorem latchDecode_lat_gpFwd (r : Record) (w : Word32) (v : Vectors) (s : State) : (latchDecode r w v s).lat.gpFwd = forwarded s.cfg.isa (readSlot1 s r w) (readSlot2 s r w) := rfl
@[simp] theorem latchDecode_lat_fpA (r : Record) (w : Word32) (v : Vectors) (s : State) : (latchDecode r w v s).lat.fpA = s.readF (faSlot s.cfg.isa w) := rfl
@[simp] theorem latchDecode_lat_fpB (r : Record) (w : Word32) (v : Vectors) (s : State) : (latchDecode r w v s).lat.fpB = s.readF (fbSlot s.cfg.isa w) := rfl
@[simp] theorem latchDecode_lat_fpC (r : Record) (w : Word32) (v : Vectors) (s : State) : (latchDecode r w v s).lat.fpC = readFc s w := rfl

end Sys2Proof.Machine
end

