-- ==== Sys2Proof/Laws/Memory.lean ====
section
/-! SUPPORT. The laws of memory: a read after a write, the canonical form kept by every memory operation, byte strings, and
what the checked accesses can answer. -/

namespace Sys2Proof.Machine

/-! ## One byte -/

theorem read_filter_ne (m : Memory) (a b : Nat) :
    Memory.read (m.filter (fun c => c.1 ≠ a)) b = if b = a then unlistedByte else m.read b := by
  induction m with
  | nil => simp [Memory.read]
  | cons c m ih =>
    by_cases hc : c.1 = a
    · rw [List.filter_cons_of_neg (by simp [hc]), ih]
      by_cases hb : b = a
      · simp [hb]
      · simp [hb, Memory.read, hc, Ne.symm hb]
    · rw [List.filter_cons_of_pos (by simp [hc])]
      simp only [Memory.read, ih]
      by_cases hb : b = a
      · subst hb; simp [hc]
      · simp [hb]

theorem read_insert (m : Memory) (a b : Nat) (v : Byte) (h : ∀ c ∈ m, c.1 ≠ a) :
    Memory.read (Memory.insert a v m) b = if b = a then v else m.read b := by
  induction m with
  | nil => simp [Memory.insert, Memory.read, eq_comm]
  | cons c m ih =>
    have hc : c.1 ≠ a := h c (by simp)
    have ih' := ih (fun d hd => h d (by simp [hd]))
    unfold Memory.insert
    by_cases hlt : a < c.1
    · rw [if_pos hlt]; simp [Memory.read, eq_comm]
    · rw [if_neg hlt]
      simp only [Memory.read, ih']
      by_cases hb : b = a
      · subst hb; simp [hc]
      · simp [hb]

/-- A read after a write, in every memory, canonical or not. -/
theorem read_write (m : Memory) (a b : Nat) (v : Byte) :
    (m.write a v).read b = if b = a then v else m.read b := by
  unfold Memory.write
  have hne : ∀ c ∈ m.filter (fun c => c.1 ≠ a), c.1 ≠ a := by
    intro c hc; simpa using (List.mem_filter.mp hc).2
  by_cases hv : v = unlistedByte
  · simp only [hv, if_true]; exact read_filter_ne m a b
  · simp only [hv, if_false]
    rw [read_insert _ _ _ _ hne, read_filter_ne]
    by_cases hb : b = a <;> simp [hb]

theorem mem_insert {m : Memory} {a : Nat} {v : Byte} {c : Host.Cell} :
    c ∈ Memory.insert a v m ↔ c = (a, v) ∨ c ∈ m := by
  induction m with
  | nil => simp [Memory.insert]
  | cons d m ih =>
    unfold Memory.insert
    split
    · simp
    · simp [ih]; tauto

theorem insert_pairwise {m : Memory} {a : Nat} {v : Byte} (hm : m.Pairwise (fun c d => c.1 < d.1))
    (h : ∀ c ∈ m, c.1 ≠ a) : (Memory.insert a v m).Pairwise (fun c d => c.1 < d.1) := by
  induction m with
  | nil => simp [Memory.insert]
  | cons c m ih =>
    have hp := List.pairwise_cons.mp hm
    have hca : c.1 ≠ a := h c (by simp)
    unfold Memory.insert
    split
    · rename_i hlt
      refine List.pairwise_cons.mpr ⟨?_, hm⟩
      intro d hd
      rcases List.mem_cons.mp hd with rfl | hd
      · exact hlt
      · exact lt_trans hlt (hp.1 d hd)
    · rename_i hlt
      refine List.pairwise_cons.mpr ⟨?_, ih hp.2 (fun d hd => h d (by simp [hd]))⟩
      intro d hd
      rcases mem_insert.mp hd with rfl | hd
      · simp only; omega
      · exact hp.1 d hd

/-- A write keeps the canonical form. -/
theorem write_wf {m : Memory} (h : m.wf) (a : Nat) (v : Byte) : (m.write a v).wf := by
  obtain ⟨hp, hz⟩ := h
  have hf : (m.filter (fun c => c.1 ≠ a)).Pairwise (fun c d => c.1 < d.1) := hp.filter _
  have hne : ∀ c ∈ m.filter (fun c => c.1 ≠ a), c.1 ≠ a := by
    intro c hc; simpa using (List.mem_filter.mp hc).2
  have hfz : ∀ c ∈ m.filter (fun c => c.1 ≠ a), c.2 ≠ unlistedByte := fun c hc => hz c (List.mem_filter.mp hc).1
  unfold Memory.write
  by_cases hv : v = unlistedByte
  · simp only [hv, if_true]; exact ⟨hf, hfz⟩
  · simp only [hv, if_false]
    refine ⟨insert_pairwise hf hne, ?_⟩
    intro c hc
    rcases mem_insert.mp hc with rfl | hc
    · exact hv
    · exact hfz c hc

/-- A write lists no address but its own beside what was listed. -/
theorem mem_write {m : Memory} {a : Nat} {v : Byte} {c : Host.Cell} (h : c ∈ m.write a v) : c.1 = a ∨ c ∈ m := by
  unfold Memory.write at h
  by_cases hv : v = unlistedByte
  · simp only [hv, if_true] at h; exact .inr (List.mem_filter.mp h).1
  · simp only [hv, if_false] at h
    rcases mem_insert.mp h with rfl | h
    · exact .inl rfl
    · exact .inr (List.mem_filter.mp h).1

/-! ## Byte strings -/

@[simp] theorem readBytes_length (m : Memory) (a n : Nat) : (m.readBytes a n).length = n := by
  induction n generalizing a with
  | zero => rfl
  | succ n ih => simp [Memory.readBytes, ih]

/-- The bytes outside a written range keep their values, those inside take the written ones. -/
theorem read_writeBytes (m : Memory) (a : Nat) (bs : List Byte) (b : Nat) :
    (m.writeBytes a bs).read b = if h : a ≤ b ∧ b < a + bs.length then bs[b - a]'(by omega) else m.read b := by
  induction bs generalizing m a with
  | nil => simp [Memory.writeBytes]
  | cons v bs ih =>
    rw [Memory.writeBytes, ih]
    by_cases h1 : a + 1 ≤ b ∧ b < a + 1 + bs.length
    · have h2 : a ≤ b ∧ b < a + (v :: bs).length := by simp; omega
      rw [dif_pos h1, dif_pos h2]
      have : b - a = (b - (a + 1)) + 1 := by omega
      simp [this]
    · rw [dif_neg h1, read_write]
      by_cases hb : b = a
      · subst hb; simp
      · have h2 : ¬ (a ≤ b ∧ b < a + (v :: bs).length) := by simp; omega
        rw [dif_neg h2, if_neg hb]

/-- Bytes outside a written range keep their values. -/
theorem read_writeBytes_outside (m : Memory) {a : Nat} {bs : List Byte} {b : Nat} (h : b < a ∨ a + bs.length ≤ b) :
    (m.writeBytes a bs).read b = m.read b := by
  rw [read_writeBytes, dif_neg (by omega)]

/-- What was written is read back. -/
theorem readBytes_writeBytes (m : Memory) (a : Nat) (bs : List Byte) :
    (m.writeBytes a bs).readBytes a bs.length = bs := by
  suffices h : ∀ (n k : Nat), k + n = bs.length → (m.writeBytes a bs).readBytes (a + k) n = bs.drop k by
    simpa using h bs.length 0 (by omega)
  intro n
  induction n with
  | zero => intro k hk; simp [Memory.readBytes, List.drop_eq_nil_of_le (show bs.length ≤ k by omega)]
  | succ n ih =>
    intro k hk
    rw [Memory.readBytes, read_writeBytes, dif_pos (by omega), Nat.add_assoc, ih (k + 1) (by omega)]
    simp [List.getElem_cons_drop]

/-- Writing bytes keeps the canonical form. -/
theorem writeBytes_wf {m : Memory} (h : m.wf) (a : Nat) (bs : List Byte) : (m.writeBytes a bs).wf := by
  induction bs generalizing m a with
  | nil => exact h
  | cons b bs ih => exact ih (write_wf h a b) (a + 1)

/-- Writing bytes lists no address outside the range beside what was listed. -/
theorem mem_writeBytes {m : Memory} {a : Nat} {bs : List Byte} {c : Host.Cell} (h : c ∈ m.writeBytes a bs) :
    (a ≤ c.1 ∧ c.1 < a + bs.length) ∨ c ∈ m := by
  induction bs generalizing m a with
  | nil => exact .inr h
  | cons b bs ih =>
    rcases ih h with h' | h'
    · left; simp; omega
    · rcases mem_write h' with h'' | h''
      · left; simp; omega
      · exact .inr h''

/-! ## Byte order (R83) -/

@[simp] theorem bytesLE_length (n v : Nat) : (bytesLE n v).length = n := by
  induction n generalizing v with
  | zero => rfl
  | succ n ih => simp [bytesLE, ih]

@[simp] theorem toBytes_length (o : ByteOrder) (n v : Nat) : (toBytes o n v).length = n := by
  cases o <;> simp [toBytes]

theorem valueLE_bytesLE (n v : Nat) : valueLE (bytesLE n v) = v % 256 ^ n := by
  induction n generalizing v with
  | zero => simp [bytesLE, valueLE, Nat.mod_one]
  | succ n ih =>
    rw [bytesLE, valueLE, ih, Nat.pow_succ, Nat.mul_comm (256 ^ n) 256, Nat.mod_mul]
    simp

/-- R83: a value stored and read back in one byte order comes back cut to its width. -/
theorem ofBytes_toBytes (o : ByteOrder) (n v : Nat) : ofBytes o (toBytes o n v) = v % 256 ^ n := by
  cases o <;> simp [ofBytes, toBytes, valueLE_bytesLE]

/-! ## Checked accesses -/

/-- R86: everything a read can answer. -/
theorem memRead_cases (s : State) (a : Word) (n : Nat) :
    (s.inRange a n ∧ s.memRead a n = .ok (BitVec.ofNat 64 (ofBytes s.cfg.byteOrder (s.mem.readBytes a.toNat n)))) ∨
      (¬ s.inRange a n ∧ s.memRead a n = .error (.outOfBounds a n)) := by
  by_cases h : s.inRange a n
  · exact .inl ⟨h, if_pos h⟩
  · exact .inr ⟨h, if_neg h⟩

/-- R87: everything a write can answer. -/
theorem memWrite_cases (s : State) (a : Word) (n : Nat) (v : Word) :
    (s.inRange a n ∧
        s.memWrite a n v = .ok { s with mem := s.mem.writeBytes a.toNat (toBytes s.cfg.byteOrder n v.toNat) }) ∨
      (¬ s.inRange a n ∧ s.memWrite a n v = .error (.outOfBounds a n)) := by
  by_cases h : s.inRange a n
  · exact .inl ⟨h, if_pos h⟩
  · exact .inr ⟨h, if_neg h⟩

/-- The reset memory has the canonical form. -/
theorem reset_memory_wf (cfg : Config) : (State.resetWith cfg).mem.wf := by
  simp [State.resetWith, Memory.wf]

end Sys2Proof.Machine
end

