-- ==== Sys2Proof/Laws/Registers.lean ====
section
/-! SUPPORT. The laws of the register files: what a read sees after a write, and what the checked writes can answer. -/

namespace Sys2Proof.Machine

/-- R31: register 0 reads 0 in every state. -/
@[simp] theorem readX_zero (s : State) : s.readX 0#5 = 0#64 := by simp [State.readX]

/-- R31: the bare write never stores in register 0. -/
@[simp] theorem setX_zero (s : State) (v : Word) : s.setX 0#5 v = s := by simp [State.setX]

/-- A register number other than 0 is at least 1. -/
theorem regIx_pos {i : RegIx} (h : i ≠ 0) : 0 < i.toNat := by
  rcases Nat.eq_zero_or_pos i.toNat with h0 | h0
  · exact absurd (BitVec.eq_of_toNat_eq (by simpa using h0)) h
  · exact h0

/-- A read of a general register after a write: the written value at the written index, unless that is 0. -/
theorem readX_setX (s : State) (i j : RegIx) (v : Word) :
    (s.setX i v).readX j = if j = i ∧ i ≠ 0 then v else s.readX j := by
  by_cases hi : i = 0
  · subst hi; simp
  by_cases hj : j = 0
  · subst hj; simp [show ¬ 0#5 = i from Ne.symm hi]
  have hi' := regIx_pos hi
  have hj' := regIx_pos hj
  simp only [State.setX, State.readX, hi, hj, if_false, not_false_eq_true, and_true, ne_eq]
  rw [Vector.getElem_set]
  by_cases h : j = i
  · subst h; simp
  · have : i.toNat - 1 ≠ j.toNat - 1 := fun e => h (BitVec.eq_of_toNat_eq (by omega))
    simp [h, this]

/-- A read of a written general register. -/
theorem readX_setX_self (s : State) {i : RegIx} (h : i ≠ 0) (v : Word) : (s.setX i v).readX i = v := by
  rw [readX_setX, if_pos ⟨rfl, h⟩]

/-- A read of another general register. -/
theorem readX_setX_ne (s : State) {i j : RegIx} (h : j ≠ i) (v : Word) : (s.setX i v).readX j = s.readX j := by
  simp [readX_setX, h]

/-- `readX` looks only at the register file. -/
theorem readX_congr {s t : State} (h : s.x = t.x) (i : RegIx) : s.readX i = t.readX i := by
  simp [State.readX, h]

/-- A read of a floating-point register after a write. -/
theorem readF_setF (s : State) (i j : RegIx) (v : Word) :
    (s.setF i v).readF j = if j = i then v else s.readF j := by
  simp only [State.setF, State.readF]
  rw [Vector.getElem_set]
  by_cases h : j = i
  · subst h; simp
  · have : i.toNat ≠ j.toNat := fun e => h (BitVec.eq_of_toNat_eq e.symm)
    simp [h, this]

/-- The stack pointer is never register 0 (R15). -/
theorem spIndex_ne_zero (isa : Isa) : isa.spIndex ≠ 0 := by cases isa <;> decide

/-- R236: a write the check accepts stores, in no register for index 0. -/
theorem writeX_ok {s : State} {i : RegIx} {v : Word} (h : s.xWritable i v) : s.writeX i v = .ok (s.setX i v) := by
  unfold State.writeX
  by_cases hi : i = 0
  · subst hi; rw [if_pos rfl]; exact congrArg _ (setX_zero s v).symm
  · rw [if_neg hi, if_pos h]

/-- R236, R703: a write the check refuses is an `InvalidValue` of that register. -/
theorem writeX_error {s : State} {i : RegIx} {v : Word} (h : ¬ s.xWritable i v) :
    s.writeX i v = .error (.invalidValue (.x i) v) := by
  unfold State.writeX
  have hi : i ≠ 0 := fun e => h (fun e' => absurd (e' ▸ e) (spIndex_ne_zero _))
  rw [if_neg hi, if_neg h]

/-- Everything `writeX` can answer. -/
theorem writeX_cases (s : State) (i : RegIx) (v : Word) :
    (s.xWritable i v ∧ s.writeX i v = .ok (s.setX i v)) ∨
      (¬ s.xWritable i v ∧ s.writeX i v = .error (.invalidValue (.x i) v)) := by
  by_cases h : s.xWritable i v
  · exact .inl ⟨h, writeX_ok h⟩
  · exact .inr ⟨h, writeX_error h⟩

/-- Everything `writePc` can answer. -/
theorem writePc_cases (s : State) (t : Word) :
    (s.pcValid t ∧ s.writePc t = .ok { s with pc := t }) ∨ (¬ s.pcValid t ∧ s.writePc t = .error (.invalidValue .pc t)) := by
  by_cases h : s.pcValid t
  · exact .inl ⟨h, if_pos h⟩
  · exact .inr ⟨h, if_neg h⟩

end Sys2Proof.Machine
end

