-- ==== Sys2Proof/Laws/Stages.lean ====
section
/-! SUPPORT. Everything a stage can do, one lemma per stage, and everything a run through the four stages can do
(spec/40_datapath.md R245, R246): it completes, or raises in Execute, in Memory, or in Writeback. -/

namespace Sys2Proof.Machine

/-! ## The stages -/

/-- Everything the Execute stage can answer. -/
theorem executeStage_cases (s : State) :
    (∃ fr cr, fpuAlu s.cfg.fpuCompletion s.lat.fs s.lat.fpA s.lat.fpB s.lat.fpC = .ok fr ∧
        comparator s.cfg.fpuCompletion s.lat.fs s.lat.fpA s.lat.fpB = .ok cr ∧
        executeStage s = .ok { s with
          data := dataAfterExecute s.lat.fs s.data s.lat.gpFwd s.lat.fpA s.lat.fpB fr cr
          lat := executeLatches s fr cr
          stage := .memory }) ∨
      (∃ op, executeStage s = .error (.unimplementedFpuOp op) ∧ s.cfg.fpuCompletion = .report) := by
  unfold executeStage
  cases hf : fpuAlu s.cfg.fpuCompletion s.lat.fs s.lat.fpA s.lat.fpB s.lat.fpC with
  | error k =>
    right
    unfold fpuAlu at hf
    split at hf
    · cases hf
    · rename_i h
      refine ⟨.fpu s.lat.fs.fpuOp, by cases hf; rfl, ?_⟩
      cases hk : s.cfg.fpuCompletion <;> simp_all
  | ok fr =>
    cases hc : comparator s.cfg.fpuCompletion s.lat.fs s.lat.fpA s.lat.fpB with
    | error k =>
      right
      unfold comparator at hc
      split at hc
      · cases hc
      · rename_i h
        refine ⟨.cmp s.lat.fs.cmpOp, by cases hc; rfl, ?_⟩
        cases hk : s.cfg.fpuCompletion <;> simp_all
    | ok cr => exact .inl ⟨fr, cr, rfl, rfl, rfl⟩

/-- Everything `loadValue` can answer. -/
theorem loadValue_cases (s : State) (k : MemReadKind) (a : Word) :
    (∃ md, loadValue s k a = .ok md) ∨ (k ≠ .noRead ∧ ¬ s.inRange a k.width ∧
      loadValue s k a = .error (.outOfBounds a k.width)) := by
  unfold loadValue
  by_cases hk : k = .noRead
  · exact .inl ⟨0, by rw [if_pos hk]⟩
  · rw [if_neg hk]
    rcases memRead_cases s a k.width with ⟨_, h⟩ | ⟨hr, h⟩
    · exact .inl ⟨_, by rw [h]⟩
    · exact .inr ⟨hk, hr, by rw [h]⟩

/-- Everything `storeValue` can answer. -/
theorem storeValue_cases (s : State) (k : MemWriteKind) (a v : Word) :
    (k = .noWrite ∧ storeValue s k a v = .ok s) ∨
      (k ≠ .noWrite ∧ s.inRange a k.width ∧ storeValue s k a v =
        .ok { s with mem := s.mem.writeBytes a.toNat (toBytes s.cfg.byteOrder k.width v.toNat) }) ∨
      (k ≠ .noWrite ∧ ¬ s.inRange a k.width ∧ storeValue s k a v = .error (.outOfBounds a k.width)) := by
  unfold storeValue
  by_cases hk : k = .noWrite
  · exact .inl ⟨hk, by rw [if_pos hk]⟩
  · rw [if_neg hk]
    rcases memWrite_cases s a k.width v with ⟨hr, h⟩ | ⟨hr, h⟩
    · exact .inr (.inl ⟨hk, hr, h⟩)
    · exact .inr (.inr ⟨hk, hr, h⟩)

/-- Everything the Memory stage can answer. -/
theorem memoryStage_cases (s : State) :
    (∃ md m, loadValue s s.lat.cs.memRead (memAddrOf s) = .ok md ∧
        storeValue s s.lat.cs.memWrite (memAddrOf s) (storedValue s.lat.cs.memWriteSrc s.lat.rs2Val s.data) =
          .ok { s with mem := m } ∧
        memoryStage s = .ok { s with
          mem := m
          data := dataAfterMemory s.lat.cs.memRead s.lat.fs s.data md
          lat := { s.lat with memAddr := memAddrOf s, memData := md }
          stage := .writeback }) ∨
      (∃ n, ¬ s.inRange (memAddrOf s) n ∧ memoryStage s = .error (.outOfBounds (memAddrOf s) n)) := by
  unfold memoryStage
  rcases loadValue_cases s s.lat.cs.memRead (memAddrOf s) with ⟨md, hl⟩ | ⟨_, hr, hl⟩
  · rcases storeValue_cases s s.lat.cs.memWrite (memAddrOf s) (storedValue s.lat.cs.memWriteSrc s.lat.rs2Val s.data) with
      ⟨_, hs⟩ | ⟨_, _, hs⟩ | ⟨_, hr, hs⟩
    · exact .inl ⟨md, s.mem, hl, hs, by rw [hl, hs]⟩
    · exact .inl ⟨md, _, hl, hs, by rw [hl, hs]⟩
    · exact .inr ⟨_, hr, by rw [hl, hs]⟩
  · exact .inr ⟨_, hr, by rw [hl]⟩

/-- The state the Writeback stage commits, but for its two latches (R236 to R241). -/
def committed (s : State) : State :=
  { (if s.lat.cs.regWrite then s.setX (wbIndexNow s) (wbDataNow s) else s) with
    f := (writeFloat s).f
    cc := if s.lat.fs.ccWrite then s.lat.cmpResult else s.cc
    pc := nextPc s
    run := if s.lat.cs.halt then .halted else s.run
    stage := .decode }

/-- Everything the Writeback stage can answer. -/
theorem writebackStage_cases (s : State) :
    ((s.lat.cs.regWrite = true → s.xWritable (wbIndexNow s) (wbDataNow s)) ∧ s.pcValid (nextPc s) ∧
        ∃ L : Latches, writebackStage s = .ok { committed s with lat := L }) ∨
      (s.lat.cs.regWrite = true ∧ ¬ s.xWritable (wbIndexNow s) (wbDataNow s) ∧
        writebackStage s = .error (.invalidValue (.x (wbIndexNow s)) (wbDataNow s))) ∨
      ((s.lat.cs.regWrite = true → s.xWritable (wbIndexNow s) (wbDataNow s)) ∧ ¬ s.pcValid (nextPc s) ∧
        writebackStage s = .error (.invalidValue .pc (nextPc s))) := by
  by_cases hw : s.lat.cs.regWrite = true
  · by_cases hx : s.xWritable (wbIndexNow s) (wbDataNow s)
    · have hg : writeGeneral s = .ok { s.setX (wbIndexNow s) (wbDataNow s) with
          lat := { s.lat with wbIndex := wbIndexNow s, wbData := wbDataNow s } } := by
        unfold writeGeneral; rw [if_pos hw, writeX_ok hx]; simp
      by_cases hp : s.pcValid (nextPc s)
      · refine .inl ⟨fun _ => hx, hp, ?_⟩
        refine ⟨{ s.lat with wbIndex := wbIndexNow s, wbData := wbDataNow s }, ?_⟩
        unfold writebackStage
        rw [hg]
        simp only [State.writePc, State.pcValid, writeCc_progEnd, writeFloat_progEnd, State.setX_progEnd]
        rw [if_pos hp]
        simp only [writeRun, writeCc, committed, hw, if_true, writeFloat]
        congr 1
        split <;> simp [State.writeF, State.setF]
      · refine .inr (.inr ⟨fun _ => hx, hp, ?_⟩)
        unfold writebackStage
        rw [hg]
        simp only [State.writePc, State.pcValid, writeCc_progEnd, writeFloat_progEnd, State.setX_progEnd]
        rw [if_neg hp]
    · refine .inr (.inl ⟨hw, hx, ?_⟩)
      unfold writebackStage writeGeneral
      rw [if_pos hw, writeX_error hx]
  · have hg : writeGeneral s = .ok s := by unfold writeGeneral; rw [if_neg hw]
    by_cases hp : s.pcValid (nextPc s)
    · refine .inl ⟨fun h => absurd h hw, hp, s.lat, ?_⟩
      unfold writebackStage
      rw [hg]
      simp only [State.writePc, State.pcValid, writeCc_progEnd, writeFloat_progEnd]
      rw [if_pos hp]
      simp only [writeRun, writeCc, committed, hw, writeFloat]
      congr 1
      split
      · simp [State.writeF, State.setF]; exact ⟨rfl, rfl⟩
      · simp
    · refine .inr (.inr ⟨fun h => absurd h hw, hp, ?_⟩)
      unfold writebackStage
      rw [hg]
      simp only [State.writePc, State.pcValid, writeCc_progEnd, writeFloat_progEnd]
      rw [if_neg hp]

end Sys2Proof.Machine
end

