-- ==== Sys2Proof/Laws/Run.lean ====
section
/-! SUPPORT. A run of a word through the four stages (spec/40_datapath.md R245, R246) in terms of the state it begins in: what
it computes on the way, the next state when nothing raises, and the next state for each place an error can be raised. -/

namespace Sys2Proof.Machine

/-! ## What a run computes -/

/-- R221: the immediate. -/
def runImm (s : State) (w : Word32) (v : Vectors) : Word := immGen s.cfg.isa v.cs.immForm w

/-- R221: the first operand. -/
def runOp1 (s : State) (r : Record) (w : Word32) (v : Vectors) : Word :=
  selectOp1 v.cs.op1Src (readSlot1 s r w) (readSlot2 s r w) s.pc

/-- R221: the ALU result. -/
def runAlu (s : State) (r : Record) (w : Word32) (v : Vectors) : Word :=
  alu v.cs.aluOp (runOp1 s r w v) (selectOp2 v.cs.op2Src (readSlot2 s r w) (runImm s w v))

/-- R224, R225: the final branch decision. -/
def runTaken (s : State) (r : Record) (w : Word32) (v : Vectors) : Bool :=
  mainTakenOf v.cs.branch (zeroFlag (runAlu s r w v)) || fpuTakenOf v.fs.fpuBranch s.cc

/-- R238: the next pc. -/
def runNext (s : State) (r : Record) (w : Word32) (v : Vectors) : Word :=
  nextPcOf v.cs.jump (runTaken s r w v) (jumpTargetOf v.cs.jump s.pc w (readSlot1 s r w) (runAlu s r w v))
    (branchTargetOf s.cfg.isa s.pc (runImm s w v)) s.pc

/-- R230: the effective address. -/
def runAddr (s : State) (r : Record) (w : Word32) (v : Vectors) : Word := runOp1 s r w v + runImm s w v

/-- R226: the coprocessor ALU's answer. -/
def runFpu (s : State) (w : Word32) (v : Vectors) : Except ErrKind Word :=
  fpuAlu s.cfg.fpuCompletion v.fs (s.readF (faSlot s.cfg.isa w)) (s.readF (fbSlot s.cfg.isa w)) (readFc s w)

/-- R227: the comparator's answer. -/
def runCmp (s : State) (w : Word32) (v : Vectors) : Except ErrKind Bool :=
  comparator s.cfg.fpuCompletion v.fs (s.readF (faSlot s.cfg.isa w)) (s.readF (fbSlot s.cfg.isa w))

/-- R228: the Data register after Execute. -/
def runData (s : State) (r : Record) (w : Word32) (v : Vectors) (fr : Word) (cr : Bool) : Word :=
  dataAfterExecute v.fs s.data (forwarded s.cfg.isa (readSlot1 s r w) (readSlot2 s r w)) (s.readF (faSlot s.cfg.isa w))
    (s.readF (fbSlot s.cfg.isa w)) fr cr

/-- R231: the load's answer. -/
def runLoad (s : State) (r : Record) (w : Word32) (v : Vectors) : Except ErrKind Word :=
  loadValue s v.cs.memRead (runAddr s r w v)

/-- R232: the stored value. -/
def runStored (s : State) (r : Record) (w : Word32) (v : Vectors) (fr : Word) (cr : Bool) : Word :=
  storedValue v.cs.memWriteSrc (readSlot2 s r w) (runData s r w v fr cr)

/-- R237: the value of the general register write. -/
def runValue (s : State) (r : Record) (w : Word32) (v : Vectors) (fr : Word) (cr : Bool) (md : Word) : Word :=
  wbDataOf v.cs v.fs (dataAfterMemory v.cs.memRead v.fs (runData s r w v fr cr) md) (runAlu s r w v) md (runImm s w v) s.pc

/-- R239: the value of the floating-point register write. -/
def runFloat (s : State) (r : Record) (w : Word32) (v : Vectors) (fr : Word) (cr : Bool) (md : Word) : Word :=
  fpuWbValue v.fs.fpuWbSrc fr (dataAfterMemory v.cs.memRead v.fs (runData s r w v fr cr) md)

/-- R245: the state a run that raises nothing ends in, but for the latches. -/
def runEnd (s : State) (r : Record) (w : Word32) (v : Vectors) (fr : Word) (cr : Bool) (md : Word) (m : Memory) : State :=
  { (if v.cs.regWrite then s.setX (wbIndexOf s.cfg.isa v.cs.regDst w) (runValue s r w v fr cr md) else s) with
    f := (if v.fs.fpuRegWrite then
      s.writeF v.fs.width (fpuDst s.cfg.isa v.fs.fpuRegDst w) (runFloat s r w v fr cr md) else s).f
    cc := if v.fs.ccWrite then cr else s.cc
    data := dataAfterMemory v.cs.memRead v.fs (runData s r w v fr cr) md
    mem := m
    pc := runNext s r w v
    run := if v.cs.halt then .halted else s.run
    stage := .decode }

/-! ## What a run can do -/

theorem storeValue_mem {s t : State} {k : MemWriteKind} {a v : Word} {m : Memory} (hc : t.cfg = s.cfg)
    (hm : t.mem = s.mem) (h : storeValue s k a v = .ok { s with mem := m }) : storeValue t k a v = .ok { t with mem := m } := by
  unfold storeValue State.memWrite State.inRange at *
  split at h
  · rename_i hk
    rw [if_pos hk]
    have : s.mem = m := congrArg State.mem (Except.ok.inj h)
    rw [← this, ← hm]
  · rename_i hk
    rw [if_neg hk, hc, hm]
    split at h
    · rename_i hr
      rw [if_pos hr]
      have := congrArg State.mem (Except.ok.inj h)
      simp only at this
      rw [this]
    · cases h

theorem storeValue_error {s t : State} {k : MemWriteKind} {a v : Word} {e : ErrKind} (hc : t.cfg = s.cfg)
    (h : storeValue s k a v = .error e) : storeValue t k a v = .error e := by
  unfold storeValue State.memWrite State.inRange at *
  rw [hc]
  split at h
  · cases h
  · rename_i hk
    rw [if_neg hk]
    split at h
    · cases h
    · rename_i hr
      rw [if_neg hr]
      exact h

theorem loadValue_mem {s t : State} (hc : t.cfg = s.cfg) (hm : t.mem = s.mem) (k : MemReadKind) (a : Word) :
    loadValue t k a = loadValue s k a := by
  unfold loadValue State.memRead State.inRange
  rw [hc, hm]

/-- The state between Execute and Memory. -/
def afterExecute (s : State) (r : Record) (w : Word32) (v : Vectors) (fr : Word) (cr : Bool) : State :=
  { latchDecode r w v s with
    data := runData s r w v fr cr
    lat := executeLatches (latchDecode r w v s) fr cr
    stage := .memory }

theorem executeStage_latched {s : State} {r : Record} {w : Word32} {v : Vectors} {fr : Word} {cr : Bool}
    (hf : runFpu s w v = .ok fr) (hc : runCmp s w v = .ok cr) :
    executeStage (latchDecode r w v s) = .ok (afterExecute s r w v fr cr) := by
  unfold runFpu at hf
  unfold runCmp at hc
  unfold executeStage
  simp only [latchDecode_cfg, latchDecode_lat_fs, latchDecode_lat_fpA, latchDecode_lat_fpB, latchDecode_lat_fpC, hf, hc]
  rfl

/-- The state between Memory and Writeback. -/
def afterMemory (s : State) (r : Record) (w : Word32) (v : Vectors) (fr : Word) (cr : Bool) (md : Word) (m : Memory) : State :=
  { afterExecute s r w v fr cr with
    mem := m
    data := dataAfterMemory v.cs.memRead v.fs (runData s r w v fr cr) md
    lat := { (afterExecute s r w v fr cr).lat with memAddr := runAddr s r w v, memData := md }
    stage := .writeback }

theorem memoryStage_latched {s : State} {r : Record} {w : Word32} {v : Vectors} {fr : Word} {cr : Bool} {md : Word}
    {m : Memory} (hl : runLoad s r w v = .ok md)
    (hs : storeValue s v.cs.memWrite (runAddr s r w v) (runStored s r w v fr cr) = .ok { s with mem := m }) :
    memoryStage (afterExecute s r w v fr cr) = .ok (afterMemory s r w v fr cr md m) := by
  have hl' : loadValue (afterExecute s r w v fr cr) (afterExecute s r w v fr cr).lat.cs.memRead
      (memAddrOf (afterExecute s r w v fr cr)) = .ok md := by
    rw [loadValue_mem (s := s) (t := afterExecute s r w v fr cr) rfl rfl]; exact hl
  have hs' : storeValue (afterExecute s r w v fr cr) (afterExecute s r w v fr cr).lat.cs.memWrite
      (memAddrOf (afterExecute s r w v fr cr)) (storedValue (afterExecute s r w v fr cr).lat.cs.memWriteSrc
        (afterExecute s r w v fr cr).lat.rs2Val (afterExecute s r w v fr cr).data) =
        .ok { afterExecute s r w v fr cr with mem := m } := storeValue_mem (s := s) rfl rfl hs
  unfold memoryStage
  rw [hl']
  simp only []
  rw [hs']
  rfl

/-- R245: a run that raises nothing. -/
theorem runWord_completes {s : State} {r : Record} {w : Word32} {v : Vectors} {fr : Word} {cr : Bool} {md : Word}
    {m : Memory} (hf : runFpu s w v = .ok fr) (hc : runCmp s w v = .ok cr) (hl : runLoad s r w v = .ok md)
    (hs : storeValue s v.cs.memWrite (runAddr s r w v) (runStored s r w v fr cr) = .ok { s with mem := m })
    (hw : v.cs.regWrite = true → s.xWritable (wbIndexOf s.cfg.isa v.cs.regDst w) (runValue s r w v fr cr md))
    (hp : s.pcValid (runNext s r w v)) :
    ∃ L, runWord r w v s = .next { runEnd s r w v fr cr md m with lat := L } := by
  unfold runWord fromExecute
  rw [executeStage_latched hf hc]
  simp only [fromMemory]
  rw [memoryStage_latched hl hs]
  simp only [fromWriteback]
  rcases writebackStage_cases (afterMemory s r w v fr cr md m) with ⟨_, _, L, h⟩ | ⟨hg, hx, _⟩ | ⟨_, hq, _⟩
  · refine ⟨L, ?_⟩
    rw [h]
    simp only [committed, runEnd]
    congr 1
    by_cases hg : v.cs.regWrite = true
    · have hg' : (afterMemory s r w v fr cr md m).lat.cs.regWrite = true := hg
      rw [if_pos hg', if_pos hg]
      by_cases hf : v.fs.fpuRegWrite = true
      · have hf' : (afterMemory s r w v fr cr md m).lat.fs.fpuRegWrite = true := hf
        rw [if_pos hf, writeFloat, if_pos hf']
        simp only [State.setX]
        split <;> rename_i h0
        · rw [if_pos (show wbIndexOf s.cfg.isa v.cs.regDst w = 0 from h0)]; rfl
        · rw [if_neg (show ¬ wbIndexOf s.cfg.isa v.cs.regDst w = 0 from h0)]; rfl
      · have hf' : ¬ (afterMemory s r w v fr cr md m).lat.fs.fpuRegWrite = true := hf
        rw [if_neg hf, writeFloat, if_neg hf']
        simp only [State.setX]
        split <;> rename_i h0
        · rw [if_pos (show wbIndexOf s.cfg.isa v.cs.regDst w = 0 from h0)]; rfl
        · rw [if_neg (show ¬ wbIndexOf s.cfg.isa v.cs.regDst w = 0 from h0)]; rfl
    · have hg' : ¬ (afterMemory s r w v fr cr md m).lat.cs.regWrite = true := hg
      rw [if_neg hg', if_neg hg]
      by_cases hf : v.fs.fpuRegWrite = true
      · have hf' : (afterMemory s r w v fr cr md m).lat.fs.fpuRegWrite = true := hf
        rw [if_pos hf, writeFloat, if_pos hf']; rfl
      · have hf' : ¬ (afterMemory s r w v fr cr md m).lat.fs.fpuRegWrite = true := hf
        rw [if_neg hf, writeFloat, if_neg hf']; rfl
  · exact absurd (hw hg) (fun h => hx h)
  · exact absurd hp hq

/-- R706, R708: a run whose coprocessor operation is reported raises in Execute; only the latches of Decode are committed. -/
theorem runWord_raises_execute {s : State} {r : Record} {w : Word32} {v : Vectors} {k : ErrKind}
    (h : runFpu s w v = .error k ∨ (∃ fr, runFpu s w v = .ok fr) ∧ runCmp s w v = .error k) :
    ∃ L, runWord r w v s = .next { s with
      stage := .execute, lat := L, fault := some { kind := k, pc := s.pc, word := w, stage := .execute } } := by
  have he : executeStage (latchDecode r w v s) = .error k := by
    unfold runFpu runCmp at h
    unfold executeStage
    simp only [latchDecode_cfg, latchDecode_lat_fs, latchDecode_lat_fpA, latchDecode_lat_fpB, latchDecode_lat_fpC]
    rcases h with h | ⟨⟨fr, hf⟩, h⟩
    · rw [h]
    · rw [hf, h]
  refine ⟨(latchDecode r w v s).lat, ?_⟩
  unfold runWord fromExecute
  rw [he]
  rfl

/-- R704, R708: a run whose access is out of range raises in Memory; beside the latches, only `data` may have changed. -/
theorem runWord_raises_memory {s : State} {r : Record} {w : Word32} {v : Vectors} {fr : Word} {cr : Bool} {k : ErrKind}
    (hf : runFpu s w v = .ok fr) (hc : runCmp s w v = .ok cr)
    (h : runLoad s r w v = .error k ∨ (∃ md, runLoad s r w v = .ok md) ∧
      storeValue s v.cs.memWrite (runAddr s r w v) (runStored s r w v fr cr) = .error k) :
    ∃ L, runWord r w v s = .next { s with
      data := runData s r w v fr cr
      stage := .memory, lat := L, fault := some { kind := k, pc := s.pc, word := w, stage := .memory } } := by
  have he : memoryStage (afterExecute s r w v fr cr) = .error k := by
    unfold memoryStage
    rcases h with h | ⟨⟨md, hl⟩, h⟩
    · rw [loadValue_mem (s := s) (t := afterExecute s r w v fr cr) rfl rfl]
      rw [show loadValue s (afterExecute s r w v fr cr).lat.cs.memRead (memAddrOf (afterExecute s r w v fr cr)) = .error k from h]
    · rw [loadValue_mem (s := s) (t := afterExecute s r w v fr cr) rfl rfl]
      rw [show loadValue s (afterExecute s r w v fr cr).lat.cs.memRead (memAddrOf (afterExecute s r w v fr cr)) = .ok md from hl]
      simp only []
      have hs' : storeValue (afterExecute s r w v fr cr) (afterExecute s r w v fr cr).lat.cs.memWrite
          (memAddrOf (afterExecute s r w v fr cr)) (storedValue (afterExecute s r w v fr cr).lat.cs.memWriteSrc
            (afterExecute s r w v fr cr).lat.rs2Val (afterExecute s r w v fr cr).data) = .error k :=
        storeValue_error (s := s) rfl h
      rw [hs']
  refine ⟨(afterExecute s r w v fr cr).lat, ?_⟩
  unfold runWord fromExecute
  rw [executeStage_latched hf hc]
  simp only [fromMemory]
  rw [he]
  rfl

/-- R703, R708: a run that reaches Writeback and fails a check there raises; beside the latches, only `data` and, for a
store, memory may have changed. -/
theorem runWord_raises_writeback {s : State} {r : Record} {w : Word32} {v : Vectors} {fr : Word} {cr : Bool} {md : Word}
    {m : Memory} {k : ErrKind} (hf : runFpu s w v = .ok fr) (hc : runCmp s w v = .ok cr) (hl : runLoad s r w v = .ok md)
    (hs : storeValue s v.cs.memWrite (runAddr s r w v) (runStored s r w v fr cr) = .ok { s with mem := m })
    (h : (v.cs.regWrite = true ∧ ¬ s.xWritable (wbIndexOf s.cfg.isa v.cs.regDst w) (runValue s r w v fr cr md) ∧
          k = .invalidValue (.x (wbIndexOf s.cfg.isa v.cs.regDst w)) (runValue s r w v fr cr md)) ∨
        ((v.cs.regWrite = true → s.xWritable (wbIndexOf s.cfg.isa v.cs.regDst w) (runValue s r w v fr cr md)) ∧
          ¬ s.pcValid (runNext s r w v) ∧ k = .invalidValue .pc (runNext s r w v))) :
    ∃ L, runWord r w v s = .next { s with
      data := dataAfterMemory v.cs.memRead v.fs (runData s r w v fr cr) md
      mem := m
      stage := .writeback, lat := L, fault := some { kind := k, pc := s.pc, word := w, stage := .writeback } } := by
  have he : writebackStage (afterMemory s r w v fr cr md m) = .error k := by
    rcases writebackStage_cases (afterMemory s r w v fr cr md m) with ⟨hx, hp, _⟩ | ⟨hg, hx, hb⟩ | ⟨hx, hp, hb⟩
    · rcases h with ⟨hg, hn, _⟩ | ⟨_, hn, _⟩
      · exact absurd (hx hg) (fun h => hn h)
      · exact absurd hp hn
    · rcases h with ⟨_, _, rfl⟩ | ⟨hy, _, _⟩
      · exact hb
      · exact absurd (hy hg) (fun h => hx h)
    · rcases h with ⟨hg, hn, _⟩ | ⟨_, _, rfl⟩
      · exact absurd (hx hg) (fun h => hn h)
      · exact hb
  refine ⟨(afterMemory s r w v fr cr md m).lat, ?_⟩
  unfold runWord fromExecute
  rw [executeStage_latched hf hc]
  simp only [fromMemory]
  rw [memoryStage_latched hl hs]
  simp only [fromWriteback]
  rw [he]
  rfl

/-- The meaning of an instruction is its run with its vectors. -/
theorem exec_eq (i : Instr) (s : State) : exec i s = runWord i.record (encode i) (vectors i) s := by
  cases i <;> rfl

end Sys2Proof.Machine
end

