-- ==== Sys2Proof/Laws/Effects.lean ====
section
/-! SUPPORT. The effect of an instruction read off its vectors, in the words of Sys2Proof/Safety.lean: what remains to show
of an instruction of the main unit alone is its destination, its value and its next pc. -/

namespace Sys2Proof.Machine

/-! ## An instruction the coprocessor takes no part in (R176) -/

theorem runFpu_inert {i : Instr} {s : State} (h : (vectors i).fs = fs0) : runFpu s (encode i) (vectors i) = .ok 0 := by
  simp [runFpu, h, fpuAlu, fs0, FpuOp.defined, fpuFunction]

theorem runCmp_inert {i : Instr} {s : State} (h : (vectors i).fs = fs0) : runCmp s (encode i) (vectors i) = .ok false := by
  simp [runCmp, h, comparator, fs0, CmpOp.defined, cmpFunction]

theorem runData_inert {i : Instr} {s : State} {r : Record} (h : (vectors i).fs = fs0) :
    runData s r (encode i) (vectors i) 0 false = s.data := by
  simp [runData, dataAfterExecute, h, fs0]

theorem dataAfterMemory_inert {i : Instr} (old md : Word) (h : (vectors i).fs = fs0) :
    dataAfterMemory (vectors i).cs.memRead (vectors i).fs old md = old := by
  simp [dataAfterMemory, h, fs0]

/-! ## An instruction of the main unit that leaves memory alone -/

/-- R236, R238: an instruction that writes a general register and the pc and nothing else. -/
theorem writesFrom_of_vectors {i : Instr} {s : State} {rd : RegIx} {v next : Word} (hfs : (vectors i).fs = fs0)
    (hmr : (vectors i).cs.memRead = .noRead) (hmw : (vectors i).cs.memWrite = .noWrite)
    (hw : (vectors i).cs.regWrite = true) (hh : (vectors i).cs.halt = false)
    (hrd : wbIndexOf s.cfg.isa (vectors i).cs.regDst (encode i) = rd)
    (hv : wbDataOf (vectors i).cs fs0 s.data (runAlu s i.record (encode i) (vectors i)) 0
      (runImm s (encode i) (vectors i)) s.pc = v)
    (hn : runNext s i.record (encode i) (vectors i) = next) : WritesFrom i s s s rd v next := by
  have hl : runLoad s i.record (encode i) (vectors i) = .ok 0 := by simp [runLoad, loadValue, hmr]
  have hs : storeValue s (vectors i).cs.memWrite (runAddr s i.record (encode i) (vectors i))
      (runStored s i.record (encode i) (vectors i) 0 false) = .ok { s with mem := s.mem } := by simp [storeValue, hmw]
  have hd : dataAfterMemory (vectors i).cs.memRead (vectors i).fs (runData s i.record (encode i) (vectors i) 0 false) 0 =
      s.data := by
    rw [dataAfterMemory_inert _ _ hfs, runData_inert hfs]
  have hv' : runValue s i.record (encode i) (vectors i) 0 false 0 = v := by
    unfold runValue; rw [hd, hfs]; exact hv
  have hf := runFpu_inert (s := s) hfs
  have hc := runCmp_inert (s := s) hfs
  refine ⟨fun h1 h2 => ?_, fun h1 => ?_, fun h1 h2 => ?_⟩
  · obtain ⟨L, h⟩ := runWord_completes hf hc hl hs (fun _ => by rw [hrd, hv']; exact h1) (by rw [hn]; exact h2)
    refine ⟨L, ?_⟩
    rw [exec_eq, h]
    simp only [runEnd, hw, hh, hd, hv', hrd, hn, if_true]
    simp only [hfs, fs0]
    congr 1
    simp only [State.setX]
    split <;> rfl
  · obtain ⟨L, h⟩ := runWord_raises_writeback hf hc hl hs (Or.inl ⟨hw, by rw [hrd, hv']; exact h1, rfl⟩)
    exact ⟨L, by rw [exec_eq, h, hrd, hv', hd]⟩
  · obtain ⟨L, h⟩ := runWord_raises_writeback hf hc hl hs
      (Or.inr ⟨fun _ => by rw [hrd, hv']; exact h1, by rw [hn]; exact h2, rfl⟩)
    exact ⟨L, by rw [exec_eq, h, hn, hd]⟩

/-- R238, R241: an instruction that writes the pc and nothing else, but for the halt. -/
theorem goesTo_of_vectors {i : Instr} {s : State} {next : Word} (hfs : (vectors i).fs = fs0)
    (hmr : (vectors i).cs.memRead = .noRead) (hmw : (vectors i).cs.memWrite = .noWrite)
    (hw : (vectors i).cs.regWrite = false) (hn : runNext s i.record (encode i) (vectors i) = next) :
    GoesTo i s { s with run := if (vectors i).cs.halt then .halted else s.run } s next := by
  have hl : runLoad s i.record (encode i) (vectors i) = .ok 0 := by simp [runLoad, loadValue, hmr]
  have hs : storeValue s (vectors i).cs.memWrite (runAddr s i.record (encode i) (vectors i))
      (runStored s i.record (encode i) (vectors i) 0 false) = .ok { s with mem := s.mem } := by simp [storeValue, hmw]
  have hd : dataAfterMemory (vectors i).cs.memRead (vectors i).fs (runData s i.record (encode i) (vectors i) 0 false) 0 =
      s.data := by
    rw [dataAfterMemory_inert _ _ hfs, runData_inert hfs]
  have hf := runFpu_inert (s := s) hfs
  have hc := runCmp_inert (s := s) hfs
  refine ⟨fun h1 => ?_, fun h1 => ?_⟩
  · obtain ⟨L, h⟩ := runWord_completes hf hc hl hs (fun h => absurd (hw.symm.trans h) Bool.false_ne_true) (by rw [hn]; exact h1)
    refine ⟨L, ?_⟩
    rw [exec_eq, h]
    simp only [runEnd, hw, hd, hn]
    simp only [hfs, fs0]
    rfl
  · obtain ⟨L, h⟩ := runWord_raises_writeback hf hc hl hs
      (Or.inr ⟨fun h => absurd (hw.symm.trans h) Bool.false_ne_true, by rw [hn]; exact h1, rfl⟩)
    exact ⟨L, by rw [exec_eq, h, hn, hd]⟩

end Sys2Proof.Machine
end

