-- ==== Sys2Proof/Laws/PerInstr.lean ====
section
/-! SUPPORT. The statements about every instruction, one lemma per constructor. `SecondaryDecode`: the record of a well-formed
instruction is recognised as that instruction (spec/40_datapath.md R162, R177). -/

namespace Sys2Proof.Laws.SecondaryDecode

/-- The record of a well-formed instruction is recognised as that instruction. -/
def Statement (i : Instr) : Prop := i.wf = true → i.record.instr = some i

/-- R645: a legal `funct3` names a rounding mode. -/
theorem roundingMode_isSome (rm : BitVec 3) (h : legalRm rm = true) : (roundingMode rm).isSome = true := by
  revert h; revert rm; decide

theorem mipsAdd (rs rt rd : RegIx) (shamt : BitVec 5) : Statement (.mipsAdd rs rt rd shamt) := fun _ => rfl

theorem mipsAddu (rs rt rd : RegIx) (shamt : BitVec 5) : Statement (.mipsAddu rs rt rd shamt) := fun _ => rfl

theorem mipsSub (rs rt rd : RegIx) (shamt : BitVec 5) : Statement (.mipsSub rs rt rd shamt) := fun _ => rfl

theorem mipsSubu (rs rt rd : RegIx) (shamt : BitVec 5) : Statement (.mipsSubu rs rt rd shamt) := fun _ => rfl

theorem mipsAnd (rs rt rd : RegIx) (shamt : BitVec 5) : Statement (.mipsAnd rs rt rd shamt) := fun _ => rfl

theorem mipsOr (rs rt rd : RegIx) (shamt : BitVec 5) : Statement (.mipsOr rs rt rd shamt) := fun _ => rfl

theorem mipsXor (rs rt rd : RegIx) (shamt : BitVec 5) : Statement (.mipsXor rs rt rd shamt) := fun _ => rfl

theorem mipsNor (rs rt rd : RegIx) (shamt : BitVec 5) : Statement (.mipsNor rs rt rd shamt) := fun _ => rfl

theorem mipsSlt (rs rt rd : RegIx) (shamt : BitVec 5) : Statement (.mipsSlt rs rt rd shamt) := fun _ => rfl

theorem mipsSltu (rs rt rd : RegIx) (shamt : BitVec 5) : Statement (.mipsSltu rs rt rd shamt) := fun _ => rfl

theorem mipsDadd (rs rt rd : RegIx) (shamt : BitVec 5) : Statement (.mipsDadd rs rt rd shamt) := fun _ => rfl

theorem mipsDaddu (rs rt rd : RegIx) (shamt : BitVec 5) : Statement (.mipsDaddu rs rt rd shamt) := fun _ => rfl

theorem mipsDsub (rs rt rd : RegIx) (shamt : BitVec 5) : Statement (.mipsDsub rs rt rd shamt) := fun _ => rfl

theorem mipsDsubu (rs rt rd : RegIx) (shamt : BitVec 5) : Statement (.mipsDsubu rs rt rd shamt) := fun _ => rfl

theorem mipsSll (rs rt rd : RegIx) (sa : BitVec 5) : Statement (.mipsSll rs rt rd sa) := fun _ => rfl

theorem mipsSrl (rs rt rd : RegIx) (sa : BitVec 5) : Statement (.mipsSrl rs rt rd sa) := fun _ => rfl

theorem mipsSra (rs rt rd : RegIx) (sa : BitVec 5) : Statement (.mipsSra rs rt rd sa) := fun _ => rfl

theorem mipsDsll (rs rt rd : RegIx) (sa : BitVec 5) : Statement (.mipsDsll rs rt rd sa) := fun _ => rfl

theorem mipsDsrl (rs rt rd : RegIx) (sa : BitVec 5) : Statement (.mipsDsrl rs rt rd sa) := fun _ => rfl

theorem mipsDsra (rs rt rd : RegIx) (sa : BitVec 5) : Statement (.mipsDsra rs rt rd sa) := fun _ => rfl

theorem mipsDsll32 (rs rt rd : RegIx) (sa : BitVec 5) : Statement (.mipsDsll32 rs rt rd sa) := fun _ => rfl

theorem mipsDsrl32 (rs rt rd : RegIx) (sa : BitVec 5) : Statement (.mipsDsrl32 rs rt rd sa) := fun _ => rfl

theorem mipsDsra32 (rs rt rd : RegIx) (sa : BitVec 5) : Statement (.mipsDsra32 rs rt rd sa) := fun _ => rfl

theorem mipsMul (rs rt rd : RegIx) : Statement (.mipsMul rs rt rd) := fun _ => rfl

theorem mipsMuh (rs rt rd : RegIx) : Statement (.mipsMuh rs rt rd) := fun _ => rfl

theorem mipsMulu (rs rt rd : RegIx) : Statement (.mipsMulu rs rt rd) := fun _ => rfl

theorem mipsMuhu (rs rt rd : RegIx) : Statement (.mipsMuhu rs rt rd) := fun _ => rfl

theorem mipsDiv (rs rt rd : RegIx) : Statement (.mipsDiv rs rt rd) := fun _ => rfl

theorem mipsMod (rs rt rd : RegIx) : Statement (.mipsMod rs rt rd) := fun _ => rfl

theorem mipsDivu (rs rt rd : RegIx) : Statement (.mipsDivu rs rt rd) := fun _ => rfl

theorem mipsModu (rs rt rd : RegIx) : Statement (.mipsModu rs rt rd) := fun _ => rfl

theorem mipsDmul (rs rt rd : RegIx) : Statement (.mipsDmul rs rt rd) := fun _ => rfl

theorem mipsDmuh (rs rt rd : RegIx) : Statement (.mipsDmuh rs rt rd) := fun _ => rfl

theorem mipsDmulu (rs rt rd : RegIx) : Statement (.mipsDmulu rs rt rd) := fun _ => rfl

theorem mipsDmuhu (rs rt rd : RegIx) : Statement (.mipsDmuhu rs rt rd) := fun _ => rfl

theorem mipsDdiv (rs rt rd : RegIx) : Statement (.mipsDdiv rs rt rd) := fun _ => rfl

theorem mipsDmod (rs rt rd : RegIx) : Statement (.mipsDmod rs rt rd) := fun _ => rfl

theorem mipsDdivu (rs rt rd : RegIx) : Statement (.mipsDdivu rs rt rd) := fun _ => rfl

theorem mipsDmodu (rs rt rd : RegIx) : Statement (.mipsDmodu rs rt rd) := fun _ => rfl

theorem mipsAddi (rs rt : RegIx) (imm16 : BitVec 16) : Statement (.mipsAddi rs rt imm16) := fun _ => rfl

theorem mipsAddiu (rs rt : RegIx) (imm16 : BitVec 16) : Statement (.mipsAddiu rs rt imm16) := fun _ => rfl

theorem mipsSlti (rs rt : RegIx) (imm16 : BitVec 16) : Statement (.mipsSlti rs rt imm16) := fun _ => rfl

theorem mipsSltiu (rs rt : RegIx) (imm16 : BitVec 16) : Statement (.mipsSltiu rs rt imm16) := fun _ => rfl

theorem mipsAndi (rs rt : RegIx) (imm16 : BitVec 16) : Statement (.mipsAndi rs rt imm16) := fun _ => rfl

theorem mipsOri (rs rt : RegIx) (imm16 : BitVec 16) : Statement (.mipsOri rs rt imm16) := fun _ => rfl

theorem mipsXori (rs rt : RegIx) (imm16 : BitVec 16) : Statement (.mipsXori rs rt imm16) := fun _ => rfl

theorem mipsLui (rs rt : RegIx) (imm16 : BitVec 16) : Statement (.mipsLui rs rt imm16) := fun _ => rfl

theorem mipsDaddi (rs rt : RegIx) (imm16 : BitVec 16) : Statement (.mipsDaddi rs rt imm16) := fun _ => rfl

theorem mipsDaddiu (rs rt : RegIx) (imm16 : BitVec 16) : Statement (.mipsDaddiu rs rt imm16) := fun _ => rfl

theorem mipsLb (base rt : RegIx) (imm16 : BitVec 16) : Statement (.mipsLb base rt imm16) := fun _ => rfl

theorem mipsLbu (base rt : RegIx) (imm16 : BitVec 16) : Statement (.mipsLbu base rt imm16) := fun _ => rfl

theorem mipsLh (base rt : RegIx) (imm16 : BitVec 16) : Statement (.mipsLh base rt imm16) := fun _ => rfl

theorem mipsLhu (base rt : RegIx) (imm16 : BitVec 16) : Statement (.mipsLhu base rt imm16) := fun _ => rfl

theorem mipsLw (base rt : RegIx) (imm16 : BitVec 16) : Statement (.mipsLw base rt imm16) := fun _ => rfl

theorem mipsLwu (base rt : RegIx) (imm16 : BitVec 16) : Statement (.mipsLwu base rt imm16) := fun _ => rfl

theorem mipsLd (base rt : RegIx) (imm16 : BitVec 16) : Statement (.mipsLd base rt imm16) := fun _ => rfl

theorem mipsSb (base rt : RegIx) (imm16 : BitVec 16) : Statement (.mipsSb base rt imm16) := fun _ => rfl

theorem mipsSh (base rt : RegIx) (imm16 : BitVec 16) : Statement (.mipsSh base rt imm16) := fun _ => rfl

theorem mipsSw (base rt : RegIx) (imm16 : BitVec 16) : Statement (.mipsSw base rt imm16) := fun _ => rfl

theorem mipsSd (base rt : RegIx) (imm16 : BitVec 16) : Statement (.mipsSd base rt imm16) := fun _ => rfl

theorem mipsBeq (rs rt : RegIx) (imm16 : BitVec 16) : Statement (.mipsBeq rs rt imm16) := fun _ => rfl

theorem mipsBne (rs rt : RegIx) (imm16 : BitVec 16) : Statement (.mipsBne rs rt imm16) := fun _ => rfl

theorem mipsJ (index : BitVec 26) : Statement (.mipsJ index) := fun _ => rfl

theorem mipsJal (index : BitVec 26) : Statement (.mipsJal index) := fun _ => rfl

theorem mipsJr (rs rt rd : RegIx) (shamt : BitVec 5) : Statement (.mipsJr rs rt rd shamt) := fun _ => rfl

theorem mipsJalr (rs rt rd : RegIx) (shamt : BitVec 5) : Statement (.mipsJalr rs rt rd shamt) := fun _ => rfl

theorem mipsSyscall (rs rt rd : RegIx) (shamt : BitVec 5) : Statement (.mipsSyscall rs rt rd shamt) := fun _ => rfl

theorem mipsLwc1 (base ft : RegIx) (imm16 : BitVec 16) : Statement (.mipsLwc1 base ft imm16) := fun _ => rfl

theorem mipsLdc1 (base ft : RegIx) (imm16 : BitVec 16) : Statement (.mipsLdc1 base ft imm16) := fun _ => rfl

theorem mipsSwc1 (base ft : RegIx) (imm16 : BitVec 16) : Statement (.mipsSwc1 base ft imm16) := fun _ => rfl

theorem mipsSdc1 (base ft : RegIx) (imm16 : BitVec 16) : Statement (.mipsSdc1 base ft imm16) := fun _ => rfl

theorem mipsMfc1 (rt fs : RegIx) (shamt : BitVec 5) (funct : BitVec 6) : Statement (.mipsMfc1 rt fs shamt funct) := fun _ => rfl

theorem mipsDmfc1 (rt fs : RegIx) (shamt : BitVec 5) (funct : BitVec 6) : Statement (.mipsDmfc1 rt fs shamt funct) := fun _ => rfl

theorem mipsMtc1 (rt fs : RegIx) (shamt : BitVec 5) (funct : BitVec 6) : Statement (.mipsMtc1 rt fs shamt funct) := fun _ => rfl

theorem mipsDmtc1 (rt fs : RegIx) (shamt : BitVec 5) (funct : BitVec 6) : Statement (.mipsDmtc1 rt fs shamt funct) := fun _ => rfl

theorem mipsBc1f (imm16 : BitVec 16) : Statement (.mipsBc1f imm16) := fun _ => rfl

theorem mipsBc1t (imm16 : BitVec 16) : Statement (.mipsBc1t imm16) := fun _ => rfl

theorem mipsAddS (ft fs fd : RegIx) : Statement (.mipsAddS ft fs fd) := fun _ => rfl

theorem mipsAddD (ft fs fd : RegIx) : Statement (.mipsAddD ft fs fd) := fun _ => rfl

theorem mipsSubS (ft fs fd : RegIx) : Statement (.mipsSubS ft fs fd) := fun _ => rfl

theorem mipsSubD (ft fs fd : RegIx) : Statement (.mipsSubD ft fs fd) := fun _ => rfl

theorem mipsMulS (ft fs fd : RegIx) : Statement (.mipsMulS ft fs fd) := fun _ => rfl

theorem mipsMulD (ft fs fd : RegIx) : Statement (.mipsMulD ft fs fd) := fun _ => rfl

theorem mipsDivS (ft fs fd : RegIx) : Statement (.mipsDivS ft fs fd) := fun _ => rfl

theorem mipsDivD (ft fs fd : RegIx) : Statement (.mipsDivD ft fs fd) := fun _ => rfl

theorem mipsSqrtS (fs fd : RegIx) : Statement (.mipsSqrtS fs fd) := fun _ => rfl

theorem mipsSqrtD (fs fd : RegIx) : Statement (.mipsSqrtD fs fd) := fun _ => rfl

theorem mipsCEqS (ft fs : RegIx) : Statement (.mipsCEqS ft fs) := fun _ => rfl

theorem mipsCEqD (ft fs : RegIx) : Statement (.mipsCEqD ft fs) := fun _ => rfl

theorem mipsCLtS (ft fs : RegIx) : Statement (.mipsCLtS ft fs) := fun _ => rfl

theorem mipsCLtD (ft fs : RegIx) : Statement (.mipsCLtD ft fs) := fun _ => rfl

theorem mipsCLeS (ft fs : RegIx) : Statement (.mipsCLeS ft fs) := fun _ => rfl

theorem mipsCLeD (ft fs : RegIx) : Statement (.mipsCLeD ft fs) := fun _ => rfl

theorem rvLui (imm20 : BitVec 20) (rd : RegIx) : Statement (.rvLui imm20 rd) := fun _ => rfl

theorem rvAuipc (imm20 : BitVec 20) (rd : RegIx) : Statement (.rvAuipc imm20 rd) := fun _ => rfl

theorem rvAddi (imm12 : BitVec 12) (rs1 rd : RegIx) : Statement (.rvAddi imm12 rs1 rd) := fun _ => rfl

theorem rvSlti (imm12 : BitVec 12) (rs1 rd : RegIx) : Statement (.rvSlti imm12 rs1 rd) := fun _ => rfl

theorem rvSltiu (imm12 : BitVec 12) (rs1 rd : RegIx) : Statement (.rvSltiu imm12 rs1 rd) := fun _ => rfl

theorem rvXori (imm12 : BitVec 12) (rs1 rd : RegIx) : Statement (.rvXori imm12 rs1 rd) := fun _ => rfl

theorem rvOri (imm12 : BitVec 12) (rs1 rd : RegIx) : Statement (.rvOri imm12 rs1 rd) := fun _ => rfl

theorem rvAndi (imm12 : BitVec 12) (rs1 rd : RegIx) : Statement (.rvAndi imm12 rs1 rd) := fun _ => rfl

theorem rvSlli (shamt : BitVec 6) (rs1 rd : RegIx) : Statement (.rvSlli shamt rs1 rd) := by
  intro _
  have h1 : (0b000000#6 ++ shamt : BitVec 12).extractLsb' 6 6 = 0b000000#6 := by
    rw [BitVec.extractLsb'_append_eq_of_le (v := 6) (w := 6) (by decide)]; exact BitVec.extractLsb'_eq_self
  have h2 : (0b000000#6 ++ shamt : BitVec 12).extractLsb' 0 6 = shamt := by
    rw [BitVec.extractLsb'_append_eq_of_add_le (v := 6) (w := 6) (by decide)]; exact BitVec.extractLsb'_eq_self
  simp only [Instr.record, Record.instr, decodeRvOpImm]
  rw [h1, h2]
  rfl

theorem rvSrli (shamt : BitVec 6) (rs1 rd : RegIx) : Statement (.rvSrli shamt rs1 rd) := by
  intro _
  have h1 : (0b000000#6 ++ shamt : BitVec 12).extractLsb' 6 6 = 0b000000#6 := by
    rw [BitVec.extractLsb'_append_eq_of_le (v := 6) (w := 6) (by decide)]; exact BitVec.extractLsb'_eq_self
  have h2 : (0b000000#6 ++ shamt : BitVec 12).extractLsb' 0 6 = shamt := by
    rw [BitVec.extractLsb'_append_eq_of_add_le (v := 6) (w := 6) (by decide)]; exact BitVec.extractLsb'_eq_self
  simp only [Instr.record, Record.instr, decodeRvOpImm]
  rw [h1, h2]
  rfl

theorem rvSrai (shamt : BitVec 6) (rs1 rd : RegIx) : Statement (.rvSrai shamt rs1 rd) := by
  intro _
  have h1 : (0b010000#6 ++ shamt : BitVec 12).extractLsb' 6 6 = 0b010000#6 := by
    rw [BitVec.extractLsb'_append_eq_of_le (v := 6) (w := 6) (by decide)]; exact BitVec.extractLsb'_eq_self
  have h2 : (0b010000#6 ++ shamt : BitVec 12).extractLsb' 0 6 = shamt := by
    rw [BitVec.extractLsb'_append_eq_of_add_le (v := 6) (w := 6) (by decide)]; exact BitVec.extractLsb'_eq_self
  simp only [Instr.record, Record.instr, decodeRvOpImm]
  rw [h1, h2]
  rfl

theorem rvAddiw (imm12 : BitVec 12) (rs1 rd : RegIx) : Statement (.rvAddiw imm12 rs1 rd) := fun _ => rfl

theorem rvSlliw (shamt : BitVec 5) (rs1 rd : RegIx) : Statement (.rvSlliw shamt rs1 rd) := by
  intro _
  have h1 : (0b0000000#7 ++ shamt : BitVec 12).extractLsb' 5 7 = 0b0000000#7 := by
    rw [BitVec.extractLsb'_append_eq_of_le (v := 7) (w := 5) (by decide)]; exact BitVec.extractLsb'_eq_self
  have h2 : (0b0000000#7 ++ shamt : BitVec 12).extractLsb' 0 5 = shamt := by
    rw [BitVec.extractLsb'_append_eq_of_add_le (v := 7) (w := 5) (by decide)]; exact BitVec.extractLsb'_eq_self
  simp only [Instr.record, Record.instr, decodeRvOpImm32]
  rw [h1, h2]
  rfl

theorem rvSrliw (shamt : BitVec 5) (rs1 rd : RegIx) : Statement (.rvSrliw shamt rs1 rd) := by
  intro _
  have h1 : (0b0000000#7 ++ shamt : BitVec 12).extractLsb' 5 7 = 0b0000000#7 := by
    rw [BitVec.extractLsb'_append_eq_of_le (v := 7) (w := 5) (by decide)]; exact BitVec.extractLsb'_eq_self
  have h2 : (0b0000000#7 ++ shamt : BitVec 12).extractLsb' 0 5 = shamt := by
    rw [BitVec.extractLsb'_append_eq_of_add_le (v := 7) (w := 5) (by decide)]; exact BitVec.extractLsb'_eq_self
  simp only [Instr.record, Record.instr, decodeRvOpImm32]
  rw [h1, h2]
  rfl

theorem rvSraiw (shamt : BitVec 5) (rs1 rd : RegIx) : Statement (.rvSraiw shamt rs1 rd) := by
  intro _
  have h1 : (0b0100000#7 ++ shamt : BitVec 12).extractLsb' 5 7 = 0b0100000#7 := by
    rw [BitVec.extractLsb'_append_eq_of_le (v := 7) (w := 5) (by decide)]; exact BitVec.extractLsb'_eq_self
  have h2 : (0b0100000#7 ++ shamt : BitVec 12).extractLsb' 0 5 = shamt := by
    rw [BitVec.extractLsb'_append_eq_of_add_le (v := 7) (w := 5) (by decide)]; exact BitVec.extractLsb'_eq_self
  simp only [Instr.record, Record.instr, decodeRvOpImm32]
  rw [h1, h2]
  rfl

theorem rvAdd (rs2 rs1 rd : RegIx) : Statement (.rvAdd rs2 rs1 rd) := fun _ => rfl

theorem rvSub (rs2 rs1 rd : RegIx) : Statement (.rvSub rs2 rs1 rd) := fun _ => rfl

theorem rvSll (rs2 rs1 rd : RegIx) : Statement (.rvSll rs2 rs1 rd) := fun _ => rfl

theorem rvSlt (rs2 rs1 rd : RegIx) : Statement (.rvSlt rs2 rs1 rd) := fun _ => rfl

theorem rvSltu (rs2 rs1 rd : RegIx) : Statement (.rvSltu rs2 rs1 rd) := fun _ => rfl

theorem rvXor (rs2 rs1 rd : RegIx) : Statement (.rvXor rs2 rs1 rd) := fun _ => rfl

theorem rvSrl (rs2 rs1 rd : RegIx) : Statement (.rvSrl rs2 rs1 rd) := fun _ => rfl

theorem rvSra (rs2 rs1 rd : RegIx) : Statement (.rvSra rs2 rs1 rd) := fun _ => rfl

theorem rvOr (rs2 rs1 rd : RegIx) : Statement (.rvOr rs2 rs1 rd) := fun _ => rfl

theorem rvAnd (rs2 rs1 rd : RegIx) : Statement (.rvAnd rs2 rs1 rd) := fun _ => rfl

theorem rvAddw (rs2 rs1 rd : RegIx) : Statement (.rvAddw rs2 rs1 rd) := fun _ => rfl

theorem rvSubw (rs2 rs1 rd : RegIx) : Statement (.rvSubw rs2 rs1 rd) := fun _ => rfl

theorem rvSllw (rs2 rs1 rd : RegIx) : Statement (.rvSllw rs2 rs1 rd) := fun _ => rfl

theorem rvSrlw (rs2 rs1 rd : RegIx) : Statement (.rvSrlw rs2 rs1 rd) := fun _ => rfl

theorem rvSraw (rs2 rs1 rd : RegIx) : Statement (.rvSraw rs2 rs1 rd) := fun _ => rfl

theorem rvMul (rs2 rs1 rd : RegIx) : Statement (.rvMul rs2 rs1 rd) := fun _ => rfl

theorem rvMulh (rs2 rs1 rd : RegIx) : Statement (.rvMulh rs2 rs1 rd) := fun _ => rfl

theorem rvMulhsu (rs2 rs1 rd : RegIx) : Statement (.rvMulhsu rs2 rs1 rd) := fun _ => rfl

theorem rvMulhu (rs2 rs1 rd : RegIx) : Statement (.rvMulhu rs2 rs1 rd) := fun _ => rfl

theorem rvDiv (rs2 rs1 rd : RegIx) : Statement (.rvDiv rs2 rs1 rd) := fun _ => rfl

theorem rvDivu (rs2 rs1 rd : RegIx) : Statement (.rvDivu rs2 rs1 rd) := fun _ => rfl

theorem rvRem (rs2 rs1 rd : RegIx) : Statement (.rvRem rs2 rs1 rd) := fun _ => rfl

theorem rvRemu (rs2 rs1 rd : RegIx) : Statement (.rvRemu rs2 rs1 rd) := fun _ => rfl

theorem rvMulw (rs2 rs1 rd : RegIx) : Statement (.rvMulw rs2 rs1 rd) := fun _ => rfl

theorem rvDivw (rs2 rs1 rd : RegIx) : Statement (.rvDivw rs2 rs1 rd) := fun _ => rfl

theorem rvDivuw (rs2 rs1 rd : RegIx) : Statement (.rvDivuw rs2 rs1 rd) := fun _ => rfl

theorem rvRemw (rs2 rs1 rd : RegIx) : Statement (.rvRemw rs2 rs1 rd) := fun _ => rfl

theorem rvRemuw (rs2 rs1 rd : RegIx) : Statement (.rvRemuw rs2 rs1 rd) := fun _ => rfl

theorem rvLb (imm12 : BitVec 12) (rs1 rd : RegIx) : Statement (.rvLb imm12 rs1 rd) := fun _ => rfl

theorem rvLh (imm12 : BitVec 12) (rs1 rd : RegIx) : Statement (.rvLh imm12 rs1 rd) := fun _ => rfl

theorem rvLw (imm12 : BitVec 12) (rs1 rd : RegIx) : Statement (.rvLw imm12 rs1 rd) := fun _ => rfl

theorem rvLd (imm12 : BitVec 12) (rs1 rd : RegIx) : Statement (.rvLd imm12 rs1 rd) := fun _ => rfl

theorem rvLbu (imm12 : BitVec 12) (rs1 rd : RegIx) : Statement (.rvLbu imm12 rs1 rd) := fun _ => rfl

theorem rvLhu (imm12 : BitVec 12) (rs1 rd : RegIx) : Statement (.rvLhu imm12 rs1 rd) := fun _ => rfl

theorem rvLwu (imm12 : BitVec 12) (rs1 rd : RegIx) : Statement (.rvLwu imm12 rs1 rd) := fun _ => rfl

theorem rvSb (imm7 : BitVec 7) (rs2 rs1 : RegIx) (imm5 : BitVec 5) : Statement (.rvSb imm7 rs2 rs1 imm5) := fun _ => rfl

theorem rvSh (imm7 : BitVec 7) (rs2 rs1 : RegIx) (imm5 : BitVec 5) : Statement (.rvSh imm7 rs2 rs1 imm5) := fun _ => rfl

theorem rvSw (imm7 : BitVec 7) (rs2 rs1 : RegIx) (imm5 : BitVec 5) : Statement (.rvSw imm7 rs2 rs1 imm5) := fun _ => rfl

theorem rvSd (imm7 : BitVec 7) (rs2 rs1 : RegIx) (imm5 : BitVec 5) : Statement (.rvSd imm7 rs2 rs1 imm5) := fun _ => rfl

theorem rvBeq (imm7 : BitVec 7) (rs2 rs1 : RegIx) (imm5 : BitVec 5) : Statement (.rvBeq imm7 rs2 rs1 imm5) := fun _ => rfl

theorem rvBne (imm7 : BitVec 7) (rs2 rs1 : RegIx) (imm5 : BitVec 5) : Statement (.rvBne imm7 rs2 rs1 imm5) := fun _ => rfl

theorem rvBlt (imm7 : BitVec 7) (rs2 rs1 : RegIx) (imm5 : BitVec 5) : Statement (.rvBlt imm7 rs2 rs1 imm5) := fun _ => rfl

theorem rvBge (imm7 : BitVec 7) (rs2 rs1 : RegIx) (imm5 : BitVec 5) : Statement (.rvBge imm7 rs2 rs1 imm5) := fun _ => rfl

theorem rvBltu (imm7 : BitVec 7) (rs2 rs1 : RegIx) (imm5 : BitVec 5) : Statement (.rvBltu imm7 rs2 rs1 imm5) := fun _ => rfl

theorem rvBgeu (imm7 : BitVec 7) (rs2 rs1 : RegIx) (imm5 : BitVec 5) : Statement (.rvBgeu imm7 rs2 rs1 imm5) := fun _ => rfl

theorem rvJal (imm20 : BitVec 20) (rd : RegIx) : Statement (.rvJal imm20 rd) := fun _ => rfl

theorem rvJalr (imm12 : BitVec 12) (rs1 rd : RegIx) : Statement (.rvJalr imm12 rs1 rd) := fun _ => rfl

theorem rvEcall (rs1 rd : RegIx) : Statement (.rvEcall rs1 rd) := fun _ => rfl

theorem rvFlw (imm12 : BitVec 12) (rs1 fd : RegIx) : Statement (.rvFlw imm12 rs1 fd) := fun _ => rfl

theorem rvFld (imm12 : BitVec 12) (rs1 fd : RegIx) : Statement (.rvFld imm12 rs1 fd) := fun _ => rfl

theorem rvFsw (imm7 : BitVec 7) (fs2 rs1 : RegIx) (imm5 : BitVec 5) : Statement (.rvFsw imm7 fs2 rs1 imm5) := fun _ => rfl

theorem rvFsd (imm7 : BitVec 7) (fs2 rs1 : RegIx) (imm5 : BitVec 5) : Statement (.rvFsd imm7 fs2 rs1 imm5) := fun _ => rfl

theorem rvFaddS (fs2 fs1 : RegIx) (rm : BitVec 3) (fd : RegIx) : Statement (.rvFaddS fs2 fs1 rm fd) := by
  intro h
  exact if_pos (roundingMode_isSome rm h)

theorem rvFaddD (fs2 fs1 : RegIx) (rm : BitVec 3) (fd : RegIx) : Statement (.rvFaddD fs2 fs1 rm fd) := by
  intro h
  exact if_pos (roundingMode_isSome rm h)

theorem rvFsubS (fs2 fs1 : RegIx) (rm : BitVec 3) (fd : RegIx) : Statement (.rvFsubS fs2 fs1 rm fd) := by
  intro h
  exact if_pos (roundingMode_isSome rm h)

theorem rvFsubD (fs2 fs1 : RegIx) (rm : BitVec 3) (fd : RegIx) : Statement (.rvFsubD fs2 fs1 rm fd) := by
  intro h
  exact if_pos (roundingMode_isSome rm h)

theorem rvFmulS (fs2 fs1 : RegIx) (rm : BitVec 3) (fd : RegIx) : Statement (.rvFmulS fs2 fs1 rm fd) := by
  intro h
  exact if_pos (roundingMode_isSome rm h)

theorem rvFmulD (fs2 fs1 : RegIx) (rm : BitVec 3) (fd : RegIx) : Statement (.rvFmulD fs2 fs1 rm fd) := by
  intro h
  exact if_pos (roundingMode_isSome rm h)

theorem rvFdivS (fs2 fs1 : RegIx) (rm : BitVec 3) (fd : RegIx) : Statement (.rvFdivS fs2 fs1 rm fd) := by
  intro h
  exact if_pos (roundingMode_isSome rm h)

theorem rvFdivD (fs2 fs1 : RegIx) (rm : BitVec 3) (fd : RegIx) : Statement (.rvFdivD fs2 fs1 rm fd) := by
  intro h
  exact if_pos (roundingMode_isSome rm h)

theorem rvFsqrtS (fs1 : RegIx) (rm : BitVec 3) (fd : RegIx) : Statement (.rvFsqrtS fs1 rm fd) := by
  intro h
  exact if_pos (roundingMode_isSome rm h)

theorem rvFsqrtD (fs1 : RegIx) (rm : BitVec 3) (fd : RegIx) : Statement (.rvFsqrtD fs1 rm fd) := by
  intro h
  exact if_pos (roundingMode_isSome rm h)

theorem rvFsgnjS (fs2 fs1 fd : RegIx) : Statement (.rvFsgnjS fs2 fs1 fd) := fun _ => rfl

theorem rvFsgnjD (fs2 fs1 fd : RegIx) : Statement (.rvFsgnjD fs2 fs1 fd) := fun _ => rfl

theorem rvFsgnjnS (fs2 fs1 fd : RegIx) : Statement (.rvFsgnjnS fs2 fs1 fd) := fun _ => rfl

theorem rvFsgnjnD (fs2 fs1 fd : RegIx) : Statement (.rvFsgnjnD fs2 fs1 fd) := fun _ => rfl

theorem rvFsgnjxS (fs2 fs1 fd : RegIx) : Statement (.rvFsgnjxS fs2 fs1 fd) := fun _ => rfl

theorem rvFsgnjxD (fs2 fs1 fd : RegIx) : Statement (.rvFsgnjxD fs2 fs1 fd) := fun _ => rfl

theorem rvFminS (fs2 fs1 fd : RegIx) : Statement (.rvFminS fs2 fs1 fd) := fun _ => rfl

theorem rvFminD (fs2 fs1 fd : RegIx) : Statement (.rvFminD fs2 fs1 fd) := fun _ => rfl

theorem rvFmaxS (fs2 fs1 fd : RegIx) : Statement (.rvFmaxS fs2 fs1 fd) := fun _ => rfl

theorem rvFmaxD (fs2 fs1 fd : RegIx) : Statement (.rvFmaxD fs2 fs1 fd) := fun _ => rfl

theorem rvFeqS (fs2 fs1 rd : RegIx) : Statement (.rvFeqS fs2 fs1 rd) := fun _ => rfl

theorem rvFeqD (fs2 fs1 rd : RegIx) : Statement (.rvFeqD fs2 fs1 rd) := fun _ => rfl

theorem rvFltS (fs2 fs1 rd : RegIx) : Statement (.rvFltS fs2 fs1 rd) := fun _ => rfl

theorem rvFltD (fs2 fs1 rd : RegIx) : Statement (.rvFltD fs2 fs1 rd) := fun _ => rfl

theorem rvFleS (fs2 fs1 rd : RegIx) : Statement (.rvFleS fs2 fs1 rd) := fun _ => rfl

theorem rvFleD (fs2 fs1 rd : RegIx) : Statement (.rvFleD fs2 fs1 rd) := fun _ => rfl

theorem rvFclassS (fs1 rd : RegIx) : Statement (.rvFclassS fs1 rd) := fun _ => rfl

theorem rvFclassD (fs1 rd : RegIx) : Statement (.rvFclassD fs1 rd) := fun _ => rfl

theorem rvFmvXW (fs1 rd : RegIx) : Statement (.rvFmvXW fs1 rd) := fun _ => rfl

theorem rvFmvXD (fs1 rd : RegIx) : Statement (.rvFmvXD fs1 rd) := fun _ => rfl

theorem rvFmvWX (rs1 fd : RegIx) : Statement (.rvFmvWX rs1 fd) := fun _ => rfl

theorem rvFmvDX (rs1 fd : RegIx) : Statement (.rvFmvDX rs1 fd) := fun _ => rfl

theorem rvFmaddS (fs3 fs2 fs1 : RegIx) (rm : BitVec 3) (fd : RegIx) : Statement (.rvFmaddS fs3 fs2 fs1 rm fd) := by
  intro h
  exact if_pos (roundingMode_isSome rm h)

theorem rvFmaddD (fs3 fs2 fs1 : RegIx) (rm : BitVec 3) (fd : RegIx) : Statement (.rvFmaddD fs3 fs2 fs1 rm fd) := by
  intro h
  exact if_pos (roundingMode_isSome rm h)

theorem rvFmsubS (fs3 fs2 fs1 : RegIx) (rm : BitVec 3) (fd : RegIx) : Statement (.rvFmsubS fs3 fs2 fs1 rm fd) := by
  intro h
  exact if_pos (roundingMode_isSome rm h)

theorem rvFmsubD (fs3 fs2 fs1 : RegIx) (rm : BitVec 3) (fd : RegIx) : Statement (.rvFmsubD fs3 fs2 fs1 rm fd) := by
  intro h
  exact if_pos (roundingMode_isSome rm h)

theorem rvFnmsubS (fs3 fs2 fs1 : RegIx) (rm : BitVec 3) (fd : RegIx) : Statement (.rvFnmsubS fs3 fs2 fs1 rm fd) := by
  intro h
  exact if_pos (roundingMode_isSome rm h)

theorem rvFnmsubD (fs3 fs2 fs1 : RegIx) (rm : BitVec 3) (fd : RegIx) : Statement (.rvFnmsubD fs3 fs2 fs1 rm fd) := by
  intro h
  exact if_pos (roundingMode_isSome rm h)

theorem rvFnmaddS (fs3 fs2 fs1 : RegIx) (rm : BitVec 3) (fd : RegIx) : Statement (.rvFnmaddS fs3 fs2 fs1 rm fd) := by
  intro h
  exact if_pos (roundingMode_isSome rm h)

theorem rvFnmaddD (fs3 fs2 fs1 : RegIx) (rm : BitVec 3) (fd : RegIx) : Statement (.rvFnmaddD fs3 fs2 fs1 rm fd) := by
  intro h
  exact if_pos (roundingMode_isSome rm h)

end Sys2Proof.Laws.SecondaryDecode
end

