-- ==== Sys2Proof/Laws/Rounding.lean ====
section
/-! SUPPORT. What the shared rounding of Sys2Proof/Machine/FpNumerics.lean can answer: `roundRatio`, `roundSigned` and
`roundSqrt` round as spec/47_fp_numerics.md R644 says (`Rounds` of Sys2Proof/Safety.lean). A magnitude is counted in the
format's units, `2^unitExp` of which are 1. -/

namespace Sys2Proof.Machine

/-! ## Encodings given by sign and magnitude bits -/

theorem infMag_lt_signWeight (w : FpWidth) : w.infMag < w.signWeight := by cases w <;> decide

theorem two_mul_signWeight_le (w : FpWidth) : 2 * w.signWeight ≤ 2 ^ 64 := by cases w <;> decide

theorem fpOfMag_toNat {w : FpWidth} {neg : Bool} {mag : Nat} (h : mag < w.signWeight) :
    (fpOfMag w neg mag).toNat = (if neg then w.signWeight else 0) + mag := by
  have := two_mul_signWeight_le w
  have hp : 0 < w.signWeight := by cases w <;> decide
  unfold fpOfMag
  rw [BitVec.toNat_ofNat, Nat.mod_eq_of_lt]
  split <;> omega

theorem fpOfMag_select {w : FpWidth} {neg : Bool} {mag : Nat} (h : mag < w.signWeight) :
    w.select (fpOfMag w neg mag) = (if neg then w.signWeight else 0) + mag := by
  cases w
  · unfold FpWidth.select
    simp only
    rw [fpOfMag_toNat h, Nat.mod_eq_of_lt]
    have : (FpWidth.word).signWeight = 2 ^ 31 := rfl
    split <;> omega
  · exact fpOfMag_toNat h

theorem fpOfMag_sign {w : FpWidth} {neg : Bool} {mag : Nat} (h : mag < w.signWeight) :
    fpSign w (fpOfMag w neg mag) = neg := by
  unfold fpSign
  rw [fpOfMag_select h]
  cases neg
  · simp [Nat.div_eq_of_lt h]
  · have hp : 0 < w.signWeight := by omega
    simp [Nat.add_div_left _ hp, Nat.div_eq_of_lt h]

theorem fpOfMag_mag {w : FpWidth} {neg : Bool} {mag : Nat} (h : mag < w.signWeight) :
    fpMag w (fpOfMag w neg mag) = mag := by
  unfold fpMag
  rw [fpOfMag_select h]
  cases neg <;> simp [Nat.mod_eq_of_lt h]

theorem fpOfMag_word {w : FpWidth} {neg : Bool} {mag : Nat} (h : mag < w.signWeight) (hw : w = .word) :
    (fpOfMag w neg mag).toNat < 2 ^ 32 := by
  rw [fpOfMag_toNat h]
  subst hw
  have : (FpWidth.word).signWeight = 2 ^ 31 := rfl
  split <;> omega

/-- R641: the value of finite magnitude bits. -/
theorem fpVal_fpOfMag {w : FpWidth} {neg : Bool} {mag : Nat} (h : mag < w.infMag) :
    fpVal w (fpOfMag w neg mag) = .fin neg (unitsOf w mag) := by
  have hs := h.trans (infMag_lt_signWeight w)
  unfold fpVal
  rw [fpOfMag_mag hs, fpOfMag_sign hs, if_pos h]

theorem isVal_fpInf (w : FpWidth) (neg : Bool) : IsVal w (fpInf w neg) (.inf neg) := by
  have hs := infMag_lt_signWeight w
  refine ⟨?_, fpOfMag_word hs⟩
  unfold fpVal fpInf
  rw [fpOfMag_mag hs, fpOfMag_sign hs, if_neg (lt_irrefl _), if_pos rfl]

theorem isVal_fpZero (w : FpWidth) (neg : Bool) : IsVal w (fpZero w neg) (.fin neg 0) := by
  have h : 0 < w.infMag := by cases w <;> decide
  refine ⟨?_, fpOfMag_word (h.trans (infMag_lt_signWeight w))⟩
  unfold fpZero
  rw [fpVal_fpOfMag h]
  simp [unitsOf]

/-- The sign of a value as a factor. -/
def signFactor (neg : Bool) : ℝ := if neg then -1 else 1

theorem signFactor_false : signFactor false = 1 := rfl

theorem signFactor_true : signFactor true = -1 := rfl

/-- R641: the encoding of finite magnitude bits. -/
theorem encodes_fpOfMag {w : FpWidth} {neg : Bool} {mag : Nat} (h : mag < w.infMag) :
    Encodes w (fpOfMag w neg mag) (signFactor neg * (unitsOf w mag / 2 ^ w.unitExp)) := by
  refine ⟨_, by unfold fpRat; rw [fpVal_fpOfMag h], ?_, fpOfMag_word (h.trans (infMag_lt_signWeight w))⟩
  cases neg <;> simp [signedUnits, signFactor, neg_div]

/-! ## Magnitude bits and units -/

/-- Where a number `n * 2^q` of units stands among the encodings: `n` has `p` bits, all of them used unless `q` is 0, or is
the next power of two. -/
abbrev Placed (w : FpWidth) (q n : Nat) : Prop := n ≤ 2 ^ w.precision ∧ (q = 0 ∨ 2 ^ w.fracBits ≤ n)

theorem pow_precision (w : FpWidth) : 2 ^ w.precision = 2 * 2 ^ w.fracBits := by
  unfold FpWidth.precision; rw [pow_succ]; ring

/-- R641: the units of the magnitude bits that `roundPack` builds. -/
theorem unitsOf_placed {w : FpWidth} {q n : Nat} (h : Placed w q n) : unitsOf w (q * 2 ^ w.fracBits + n) = n * 2 ^ q := by
  obtain ⟨hn, hq⟩ := h
  rw [pow_precision] at hn
  have hp : 0 < 2 ^ w.fracBits := by positivity
  unfold unitsOf
  generalize 2 ^ w.fracBits = b at *
  rcases lt_or_ge n b with hlt | hge
  · obtain rfl : q = 0 := by omega
    simp [Nat.div_eq_of_lt hlt, Nat.mod_eq_of_lt hlt]
  · rcases Nat.lt_or_eq_of_le hn with hlt | rfl
    · obtain ⟨k, rfl⟩ := Nat.exists_eq_add_of_le hge
      have hk : k < b := by omega
      have e : q * b + (b + k) = b * (q + 1) + k := by ring
      rw [e, Nat.mul_add_div hp, Nat.mul_add_mod, Nat.div_eq_of_lt hk, Nat.mod_eq_of_lt hk]
      simp
    · have e : q * b + 2 * b = b * (q + 2) := by ring
      rw [e, Nat.mul_div_cancel_left _ hp, Nat.mul_mod_right]
      simp [pow_succ]
      ring

/-- R640, R644: the largest exponent of a finite spacing, in units. -/
def FpWidth.maxQuantum (w : FpWidth) : Nat := 2 ^ w.expBits - 3

/-- R644: `MAXFIN` in units. -/
def FpWidth.maxUnits (w : FpWidth) : Nat := (2 ^ w.precision - 1) * 2 ^ w.maxQuantum

theorem infMag_eq (w : FpWidth) : w.infMag = (w.maxQuantum + 2) * 2 ^ w.fracBits := by cases w <;> decide

/-- R644: magnitude bits below those of an infinity are the numbers up to `MAXFIN`. -/
theorem bits_lt_infMag_iff {w : FpWidth} {q n : Nat} (h : Placed w q n) :
    q * 2 ^ w.fracBits + n < w.infMag ↔ n * 2 ^ q ≤ w.maxUnits := by
  obtain ⟨hn, hq⟩ := h
  unfold FpWidth.maxUnits
  rw [infMag_eq]
  rw [pow_precision] at hn ⊢
  have hp : 0 < 2 ^ w.fracBits := by positivity
  generalize 2 ^ w.fracBits = b at *
  generalize w.maxQuantum = k at *
  rcases lt_or_ge n b with hlt | hge
  · obtain rfl : q = 0 := by omega
    have h1 : 1 ≤ 2 ^ k := Nat.one_le_two_pow
    constructor
    · intro _
      calc n * 2 ^ 0 ≤ (2 * b - 1) * 1 := by omega
        _ ≤ (2 * b - 1) * 2 ^ k := Nat.mul_le_mul_left _ h1
    · intro _; nlinarith
  · rcases Nat.lt_or_eq_of_le hn with hlt | rfl
    · constructor
      · intro hb
        have hqk : q ≤ k := by
          by_contra hc
          have : (k + 1) * b ≤ q * b := Nat.mul_le_mul_right _ (by omega)
          have e : (k + 2) * b = (k + 1) * b + b := by ring
          omega
        exact Nat.mul_le_mul (by omega) (Nat.pow_le_pow_right (by omega) hqk)
      · intro hm
        have hqk : q ≤ k := by
          by_contra hc
          have h2 : 2 ^ (k + 1) ≤ 2 ^ q := Nat.pow_le_pow_right (by omega) (by omega)
          have h3 : b * 2 ^ (k + 1) ≤ n * 2 ^ q := Nat.mul_le_mul hge h2
          have h4 : b * 2 ^ (k + 1) = 2 * b * 2 ^ k := by rw [pow_succ]; ring
          have h5 : (2 * b - 1) * 2 ^ k < 2 * b * 2 ^ k := Nat.mul_lt_mul_of_pos_right (by omega) (by positivity)
          omega
        have : q * b ≤ k * b := Nat.mul_le_mul_right _ hqk
        have e : (k + 2) * b = k * b + 2 * b := by ring
        omega
    · have e : q * b + 2 * b = (q + 2) * b := by ring
      rw [e, Nat.mul_lt_mul_right hp]
      constructor
      · intro hb
        have h2 : 2 ^ (q + 1) ≤ 2 ^ k := Nat.pow_le_pow_right (by omega) (by omega)
        calc 2 * b * 2 ^ q = b * 2 ^ (q + 1) := by rw [pow_succ]; ring
          _ ≤ b * 2 ^ k := Nat.mul_le_mul_left _ h2
          _ ≤ (2 * b - 1) * 2 ^ k := Nat.mul_le_mul_right _ (by omega)
      · intro hm
        by_contra hc
        have h2 : 2 ^ k ≤ 2 ^ q := Nat.pow_le_pow_right (by omega) (by omega)
        have h3 : 2 * b * 2 ^ k ≤ 2 * b * 2 ^ q := Nat.mul_le_mul_left _ h2
        have h5 : (2 * b - 1) * 2 ^ k < 2 * b * 2 ^ k := Nat.mul_lt_mul_of_pos_right (by omega) (by positivity)
        omega

/-- R641, R644: the largest finite magnitude bits are those of `MAXFIN`. -/
theorem unitsOf_max (w : FpWidth) : unitsOf w (w.infMag - 1) = w.maxUnits := by
  have hp : 0 < 2 ^ w.fracBits := by positivity
  have e : w.infMag - 1 = w.maxQuantum * 2 ^ w.fracBits + (2 ^ w.precision - 1) := by
    rw [infMag_eq, pow_precision]
    generalize 2 ^ w.fracBits = b at *
    have : (w.maxQuantum + 2) * b = w.maxQuantum * b + 2 * b := by ring
    omega
  rw [e, unitsOf_placed ⟨Nat.sub_le _ _, Or.inr (by rw [pow_precision]; omega)⟩]
  rfl

/-! ## `F*` in units -/

/-- R640: a unit is `2^(emin-p+1)`. -/
theorem emin_unitExp (w : FpWidth) : w.emin - w.precision + 1 = -(w.unitExp : Int) := by cases w <;> rfl

theorem emax_unitExp (w : FpWidth) : w.emax - w.precision + 1 = (w.maxQuantum : Int) - w.unitExp := by cases w <;> rfl

theorem isMaxFin_units {w : FpWidth} {M : ℝ} (h : IsMaxFin w M) : M = (w.maxUnits : ℝ) / 2 ^ w.unitExp := by
  unfold IsMaxFin at h
  rw [h, emax_unitExp, zpow_sub₀ two_ne_zero, zpow_natCast, zpow_natCast]
  have h1 : 1 ≤ 2 ^ w.precision := Nat.one_le_two_pow
  unfold FpWidth.maxUnits
  push_cast [Nat.cast_sub h1]
  ring

theorem isScaled_of_units {w : FpWidth} {m j : Nat} {y : ℝ} (hm : m < 2 ^ w.precision)
    (hy : |y| = (m * 2 ^ j : ℕ) / 2 ^ w.unitExp) : IsScaled w m y := by
  refine ⟨hm, w.emin + j, by omega, ?_⟩
  have e : w.emin + j - w.precision + 1 = (j : Int) - w.unitExp := by have := emin_unitExp w; omega
  rw [hy, e, zpow_sub₀ two_ne_zero, zpow_natCast, zpow_natCast]
  push_cast
  ring

theorem units_of_isScaled {w : FpWidth} {m : Nat} {y : ℝ} (h : IsScaled w m y) :
    ∃ j : Nat, |y| = (m * 2 ^ j : ℕ) / 2 ^ w.unitExp := by
  obtain ⟨_, e, he, hy⟩ := h
  obtain ⟨j, rfl⟩ := Int.le.dest he
  refine ⟨j, ?_⟩
  have e : w.emin + j - w.precision + 1 = (j : Int) - w.unitExp := by have := emin_unitExp w; omega
  rw [hy, e, zpow_sub₀ two_ne_zero, zpow_natCast, zpow_natCast]
  push_cast
  ring

/-- No number of `F*` lies strictly between `m * 2^q` and `(m + 1) * 2^q` units. -/
theorem no_scaled_between {w : FpWidth} {m q m' j : Nat} (hq : q = 0 ∨ 2 ^ w.fracBits ≤ m) (hm' : m' < 2 ^ w.precision)
    (h : m * 2 ^ q < m' * 2 ^ j) : (m + 1) * 2 ^ q ≤ m' * 2 ^ j := by
  rw [pow_precision] at hm'
  rcases le_or_gt q j with hj | hj
  · obtain ⟨k, rfl⟩ := Nat.exists_eq_add_of_le hj
    have e : m' * 2 ^ (q + k) = (m' * 2 ^ k) * 2 ^ q := by rw [pow_add]; ring
    rw [e] at h ⊢
    exact Nat.mul_le_mul_right _ (Nat.lt_of_mul_lt_mul_right h)
  · exfalso
    obtain ⟨k, rfl⟩ := Nat.exists_eq_add_of_lt hj
    have hm : 2 ^ w.fracBits ≤ m := hq.resolve_left (by omega)
    have h1 : m' * 2 ^ j ≤ 2 * 2 ^ w.fracBits * 2 ^ (j + k) :=
      Nat.mul_le_mul hm'.le (Nat.pow_le_pow_right (by omega) (by omega))
    have h2 : 2 * 2 ^ w.fracBits * 2 ^ (j + k) = 2 ^ w.fracBits * 2 ^ (j + k + 1) := by rw [pow_succ 2 (j + k)]; ring
    have h3 : 2 ^ w.fracBits * 2 ^ (j + k + 1) ≤ m * 2 ^ (j + k + 1) := Nat.mul_le_mul_right _ hm
    omega

/-! ## The neighbours of a positive value -/

/-- The value `a`, in units, has `m * 2^q` as its neighbour of smaller magnitude. -/
structure Between (w : FpWidth) (q m : Nat) (a : ℝ) : Prop where
  pos : 0 < a
  small : m < 2 ^ w.precision
  spaced : q = 0 ∨ 2 ^ w.fracBits ≤ m
  ge : ((m * 2 ^ q : ℕ) : ℝ) ≤ a
  lt : a < (((m + 1) * 2 ^ q : ℕ) : ℝ)

variable {w : FpWidth} {q m : Nat} {a : ℝ}

theorem unit_pos (w : FpWidth) : (0 : ℝ) < 2 ^ w.unitExp := by positivity

theorem fStar_units {n : Nat} (h : Placed w q n) {y : ℝ} (hy : |y| = (n * 2 ^ q : ℕ) / 2 ^ w.unitExp) : FStar w y := by
  rcases Nat.lt_or_eq_of_le h.1 with hlt | heq
  · exact ⟨n, isScaled_of_units hlt hy⟩
  · refine ⟨2 ^ w.fracBits, isScaled_of_units (j := q + 1) ?_ ?_⟩
    · rw [pow_precision]; have : 0 < 2 ^ w.fracBits := by positivity
      omega
    · rw [hy, heq, pow_precision, pow_succ]; congr 2; ring

/-- The neighbours of a positive value: `m * 2^q`, and itself where it is exact, else `(m + 1) * 2^q`. -/
theorem neighbours_pos (h : Between w q m a) (exact : Bool) (he : exact = true ↔ a = (m * 2 ^ q : ℕ)) :
    IsGreatest {z | FStar w z ∧ z ≤ a / 2 ^ w.unitExp} (((m * 2 ^ q : ℕ) : ℝ) / 2 ^ w.unitExp) ∧
    IsLeast {z | FStar w z ∧ a / 2 ^ w.unitExp ≤ z} ((((if exact then m else m + 1) * 2 ^ q : ℕ) : ℝ) / 2 ^ w.unitExp) := by
  have hU := unit_pos w
  have abs_units (n : ℕ) : |((n : ℕ) : ℝ) / 2 ^ w.unitExp| = (n : ℝ) / 2 ^ w.unitExp := abs_of_nonneg (by positivity)
  have key {m' j : ℕ} (hm' : m' < 2 ^ w.precision) (hgt : ((m * 2 ^ q : ℕ) : ℝ) < (m' * 2 ^ j : ℕ)) :
      (((m + 1) * 2 ^ q : ℕ) : ℝ) ≤ (m' * 2 ^ j : ℕ) := by
    exact_mod_cast no_scaled_between h.spaced hm' (by exact_mod_cast hgt)
  constructor
  · refine ⟨⟨fStar_units ⟨h.small.le, h.spaced⟩ (abs_units _), by gcongr; exact h.ge⟩, ?_⟩
    rintro z ⟨⟨m', hz⟩, hza⟩
    rcases le_or_gt z 0 with h0 | h0
    · exact h0.trans (by positivity)
    · obtain ⟨j, hj⟩ := units_of_isScaled hz
      rw [abs_of_pos h0] at hj
      rw [hj] at hza ⊢
      rw [div_le_div_iff_of_pos_right hU] at hza ⊢
      by_contra hc
      exact absurd (key hz.1 (not_le.mp hc)) (not_le.mpr (hza.trans_lt h.lt))
  · have hp : Placed w q (if exact then m else m + 1) := by
      split
      · exact ⟨h.small.le, h.spaced⟩
      · exact ⟨h.small, h.spaced.imp id (fun h => h.trans (Nat.le_succ _))⟩
    refine ⟨⟨fStar_units hp (abs_units _), ?_⟩, ?_⟩
    · rw [div_le_div_iff_of_pos_right hU]
      cases exact
      · exact h.lt.le
      · exact (he.mp rfl).le
    · rintro z ⟨⟨m', hz⟩, hza⟩
      have h0 : 0 < z := lt_of_lt_of_le (div_pos h.pos hU) hza
      obtain ⟨j, hj⟩ := units_of_isScaled hz
      rw [abs_of_pos h0] at hj
      rw [hj] at hza ⊢
      rw [div_le_div_iff_of_pos_right hU] at hza ⊢
      cases exact
      · refine key hz.1 (lt_of_lt_of_le (lt_of_le_of_ne h.ge fun e => ?_) hza)
        exact Bool.false_ne_true (he.mpr e.symm)
      · simpa [← he.mp rfl] using hza

theorem fStar_neg {y : ℝ} : FStar w (-y) ↔ FStar w y := by simp [FStar, IsScaled]

theorem isScaled_neg {n : Nat} {y : ℝ} : IsScaled w n (-y) ↔ IsScaled w n y := by simp [IsScaled]

/-- The neighbours of a negative value are those of its magnitude, negated. -/
theorem neighbours_neg {x lo hi : ℝ} (hlo : IsGreatest {z | FStar w z ∧ z ≤ x} lo) (hhi : IsLeast {z | FStar w z ∧ x ≤ z} hi) :
    IsGreatest {z | FStar w z ∧ z ≤ -x} (-hi) ∧ IsLeast {z | FStar w z ∧ -x ≤ z} (-lo) := by
  refine ⟨⟨⟨fStar_neg.mpr hhi.1.1, neg_le_neg hhi.1.2⟩, fun z hz => ?_⟩, ⟨⟨fStar_neg.mpr hlo.1.1, neg_le_neg hlo.1.2⟩, fun z hz => ?_⟩⟩
  · exact le_neg.mp (hhi.2 ⟨fStar_neg.mpr hz.1, le_neg.mp hz.2⟩)
  · exact neg_le.mp (hlo.2 ⟨fStar_neg.mpr hz.1, neg_le.mp hz.2⟩)

/-! ## The choice of a neighbour -/

/-- How the exact value `x` stands to its neighbours `lo` and `hi`, as the model's rounding sees it. -/
structure Seen (w : FpWidth) (m : Nat) (half : Ordering) (exact : Bool) (lo x hi : ℝ) : Prop where
  nonneg : 0 ≤ lo
  exact_eq : exact = true → half = .lt ∧ x = lo ∧ hi = lo
  inexact : exact = false → lo < x ∧ x < hi
  below : exact = false → half = .lt → x - lo < hi - x
  tie : exact = false → half = .eq → x - lo = hi - x
  above : exact = false → half = .gt → hi - x < x - lo
  even_lo : m % 2 = 0 → ∃ k, IsScaled w k lo ∧ k % 2 = 0
  even_hi : exact = false → m % 2 = 1 → ∃ k, IsScaled w k hi ∧ k % 2 = 0

/-- R644: the neighbour that `roundsAway` chooses is the one the mode names, for a positive value. -/
theorem chooses_pos {half : Ordering} {exact : Bool} {lo x hi : ℝ} (rm : Round) (h : Seen w m half exact lo x hi) :
    Chooses w rm lo x hi (if roundsAway rm false m half exact then hi else lo) := by
  have h0 := h.nonneg
  cases exact with
  | true =>
    obtain ⟨rfl, rfl, rfl⟩ := h.exact_eq rfl
    cases rm <;> simp [Chooses, roundsAway]
  | false =>
    obtain ⟨h1, h2⟩ := h.inexact rfl
    have e1 : |lo - x| = x - lo := by rw [abs_sub_comm]; exact abs_of_pos (by linarith)
    have e2 : |hi - x| = hi - x := abs_of_pos (by linarith)
    have e3 : |lo| = lo := abs_of_nonneg h0
    have e4 : |hi| = hi := abs_of_pos (by linarith)
    cases rm with
    | rtz => simp [Chooses, roundsAway, e3, e4]; linarith
    | rdn => simp [Chooses, roundsAway]
    | rup => simp [Chooses, roundsAway]
    | rmm =>
      cases half with
      | lt => have := h.below rfl rfl; simp [Chooses, roundsAway, e1, e2, e3, e4]; constructor <;> intros <;> linarith
      | eq => have := h.tie rfl rfl; simp [Chooses, roundsAway, e1, e2, e3, e4]; constructor <;> intros <;> linarith
      | gt => have := h.above rfl rfl; simp [Chooses, roundsAway, e1, e2, e3, e4]; constructor <;> intros <;> linarith
    | rne =>
      cases half with
      | lt =>
        have := h.below rfl rfl
        simp [Chooses, roundsAway, e1, e2]
        exact ⟨by linarith, fun e => by linarith⟩
      | gt =>
        have := h.above rfl rfl
        simp [Chooses, roundsAway, e1, e2]
        exact ⟨by linarith, fun e => by linarith⟩
      | eq =>
        have := h.tie rfl rfl
        rcases Nat.mod_two_eq_zero_or_one m with hm | hm
        · simp [Chooses, roundsAway, e1, e2, hm]
          exact ⟨by linarith, fun _ _ => h.even_lo hm⟩
        · simp [Chooses, roundsAway, e1, e2, hm]
          exact ⟨by linarith, fun _ _ => h.even_hi rfl hm⟩

/-- The mode that rounds negated values as `rm` rounds values: `RDN` and `RUP` change places. -/
def Round.mirror : Round → Round
  | .rne => .rne
  | .rtz => .rtz
  | .rdn => .rup
  | .rup => .rdn
  | .rmm => .rmm

theorem roundsAway_mirror (rm : Round) (half : Ordering) (exact : Bool) :
    roundsAway rm.mirror true m half exact = roundsAway rm false m half exact := by
  cases rm <;> simp [roundsAway, Round.mirror]

theorem Round.mirror_mirror (rm : Round) : rm.mirror.mirror = rm := by cases rm <;> rfl

theorem abs_neg_sub_neg (y r : ℝ) : |-y - -r| = |y - r| := by rw [neg_sub_neg, abs_sub_comm]

/-- R644: negating everything mirrors the mode. -/
theorem chooses_mirror {rm : Round} {lo r hi y : ℝ} (h : Chooses w rm lo r hi y) :
    Chooses w rm.mirror (-hi) (-r) (-lo) (-y) := by
  obtain ⟨hy, h⟩ := h
  refine ⟨hy.symm.imp (congrArg _) (congrArg _), ?_⟩
  cases rm with
  | rtz => exact ⟨by simpa only [abs_neg] using h.2, by simpa only [abs_neg] using h.1⟩
  | rdn => exact congrArg _ h
  | rup => exact congrArg _ h
  | rmm =>
    simp only [Round.mirror, abs_neg_sub_neg, abs_neg]
    exact ⟨h.2.1, h.1, fun e => (h.2.2 e.symm).symm⟩
  | rne =>
    simp only [Round.mirror, abs_neg_sub_neg]
    refine ⟨h.2.1, h.1, fun e hne => ?_⟩
    obtain ⟨k, hk, hk2⟩ := h.2.2 e.symm (fun e' => hne (congrArg _ e'.symm))
    exact ⟨k, isScaled_neg.mpr hk, hk2⟩

/-- R644: the same for a negative value, whose neighbours are those of its magnitude, negated. -/
theorem chooses_neg {half : Ordering} {exact : Bool} {lo x hi : ℝ} (rm : Round) (h : Seen w m half exact lo x hi) :
    Chooses w rm (-hi) (-x) (-lo) (-(if roundsAway rm true m half exact then hi else lo)) := by
  have hc := chooses_mirror (chooses_pos rm.mirror h)
  rwa [Round.mirror_mirror, ← roundsAway_mirror, Round.mirror_mirror] at hc

/-! ## `roundPack` -/

/-- How the exact magnitude `a` stands to the midpoint above `m * 2^q`, as `roundPack` is told. -/
structure Told (q m : Nat) (a : ℝ) (half : Ordering) (exact : Bool) : Prop where
  half_lt : half = .lt → 2 * a < ((2 * m + 1) * 2 ^ q : ℕ)
  half_eq : half = .eq → 2 * a = ((2 * m + 1) * 2 ^ q : ℕ)
  half_gt : half = .gt → ((2 * m + 1) * 2 ^ q : ℕ) < 2 * a
  exact_iff : exact = true ↔ a = (m * 2 ^ q : ℕ)

/-- What the model sees of the neighbours is so. -/
theorem seen_of_told {half : Ordering} {exact : Bool} (h : Between w q m a) (ht : Told q m a half exact) :
    Seen w m half exact (((m * 2 ^ q : ℕ) : ℝ) / 2 ^ w.unitExp) (a / 2 ^ w.unitExp)
      ((((if exact then m else m + 1) * 2 ^ q : ℕ) : ℝ) / 2 ^ w.unitExp) := by
  have hU := unit_pos w
  have hlo := h.ge
  have hhi := h.lt
  have h1 := ht.half_lt
  have h2 := ht.half_eq
  have h3 := ht.half_gt
  have hq : (0 : ℝ) < 2 ^ q := by positivity
  push_cast at hlo hhi h1 h2 h3
  refine ⟨by positivity, ?_, ?_, ?_, ?_, ?_, ?_, ?_⟩
  · rintro rfl
    have he := ht.exact_iff.mp rfl
    refine ⟨?_, by rw [he], by simp⟩
    push_cast at he
    cases half
    · rfl
    · have := h2 rfl; nlinarith
    · have := h3 rfl; nlinarith
  · rintro rfl
    have hne : a ≠ (m * 2 ^ q : ℕ) := fun e => Bool.false_ne_true (ht.exact_iff.mpr e)
    exact ⟨by gcongr; exact lt_of_le_of_ne h.ge hne.symm, by gcongr; exact h.lt⟩
  · rintro rfl hh
    have := h1 hh
    rw [← sub_div, ← sub_div]
    refine div_lt_div_of_pos_right ?_ hU
    push_cast
    nlinarith
  · rintro rfl hh
    have := h2 hh
    rw [← sub_div, ← sub_div]
    congr 1
    push_cast
    nlinarith
  · rintro rfl hh
    have := h3 hh
    rw [← sub_div, ← sub_div]
    refine div_lt_div_of_pos_right ?_ hU
    push_cast
    nlinarith
  · intro hm
    exact ⟨m, isScaled_of_units h.small (abs_of_nonneg (by positivity)), hm⟩
  · rintro rfl hm
    rcases Nat.lt_or_eq_of_le (Nat.succ_le_of_lt h.small) with hlt | heq
    · exact ⟨m + 1, isScaled_of_units hlt (abs_of_nonneg (by positivity)), by omega⟩
    · refine ⟨2 ^ w.fracBits, isScaled_of_units (j := q + 1) ?_ ?_, by cases w <;> rfl⟩
      · rw [pow_precision]; have : 0 < 2 ^ w.fracBits := by positivity
        omega
      · rw [abs_of_nonneg (by positivity)]
        simp only [Bool.false_eq_true, if_false]
        rw [show m + 1 = _ from heq, pow_precision, pow_succ]; congr 2; ring

/-- R644: `roundPack` rounds. -/
theorem roundPack_rounds {half : Ordering} {exact : Bool} (rm : Round) (neg : Bool) (h : Between w q m a)
    (ht : Told q m a half exact) :
    Rounds w rm (signFactor neg * (a / 2 ^ w.unitExp)) (roundPack w rm neg q m half exact) := by
  have hU := unit_pos w
  have hs := seen_of_told h ht
  obtain ⟨hlo, hhi⟩ := neighbours_pos h exact ht.exact_iff
  -- the chosen number is `n * 2^q` units
  obtain ⟨n, hn, hy⟩ : ∃ n, n = m + (if roundsAway rm neg m half exact then 1 else 0) ∧
      (if roundsAway rm neg m half exact then ((((if exact then m else m + 1) * 2 ^ q : ℕ) : ℝ) / 2 ^ w.unitExp)
        else (((m * 2 ^ q : ℕ) : ℝ) / 2 ^ w.unitExp)) = ((n * 2 ^ q : ℕ) : ℝ) / 2 ^ w.unitExp := by
    refine ⟨_, rfl, ?_⟩
    cases hex : exact with
    | false => split <;> simp
    | true =>
      have hh := (hs.exact_eq hex).1
      have : roundsAway rm neg m half true = false := by subst hh; cases rm <;> simp [roundsAway]
      simp [this]
  have hp : Placed w q n := by
    rw [hn]
    refine ⟨by have := h.small; split <;> omega, h.spaced.imp id (fun h => h.trans (Nat.le_add_right _ _))⟩
  have hbits : roundPack w rm neg q m half exact =
      if q * 2 ^ w.fracBits + n < w.infMag then fpOfMag w neg (q * 2 ^ w.fracBits + n)
      else if overflowsToInf rm neg then fpInf w neg else fpOfMag w neg (w.infMag - 1) := by
    unfold roundPack; rw [hn, ← Nat.add_assoc]
  have hmax : Encodes w (fpOfMag w neg (w.infMag - 1)) (signFactor neg * (w.maxUnits / 2 ^ w.unitExp)) := by
    have := encodes_fpOfMag (w := w) (neg := neg) (mag := w.infMag - 1) (by have : 0 < w.infMag := by cases w <;> decide
                                                                            omega)
    rwa [unitsOf_max] at this
  refine ⟨signFactor neg * (((n * 2 ^ q : ℕ) : ℝ) / 2 ^ w.unitExp), ?_, ?_⟩
  · cases neg with
    | false =>
      rw [signFactor_false, one_mul, one_mul]
      exact ⟨_, _, hlo, hhi, hy ▸ chooses_pos rm hs⟩
    | true =>
      rw [signFactor_true, neg_one_mul, neg_one_mul]
      obtain ⟨hlo', hhi'⟩ := neighbours_neg hlo hhi
      exact ⟨_, _, hlo', hhi', hy ▸ chooses_neg rm hs⟩
  · intro M hM neg' hneg
    have hax : 0 < a / 2 ^ w.unitExp := div_pos h.pos hU
    obtain rfl : neg' = neg := by
      cases neg <;> cases neg'
      · rfl
      · have := hneg.mp rfl; rw [signFactor_false] at this; linarith
      · have := hneg.mpr (by rw [signFactor_true]; linarith); cases this
      · rfl
    have habs : |signFactor neg' * (((n * 2 ^ q : ℕ) : ℝ) / 2 ^ w.unitExp)| = ((n * 2 ^ q : ℕ) : ℝ) / 2 ^ w.unitExp := by
      rw [abs_mul, abs_of_nonneg (a := ((n * 2 ^ q : ℕ) : ℝ) / 2 ^ w.unitExp) (by positivity)]
      cases neg' <;> simp [signFactor]
    have hle : ((n * 2 ^ q : ℕ) : ℝ) / 2 ^ w.unitExp ≤ M ↔ q * 2 ^ w.fracBits + n < w.infMag := by
      rw [isMaxFin_units hM, div_le_div_iff_of_pos_right hU, bits_lt_infMag_iff hp, Nat.cast_le]
    rw [habs, hbits]
    refine ⟨fun hov => ?_, fun h0 => ?_, fun hfin _ => ?_⟩
    · rw [if_neg (fun hc => absurd (hle.mpr hc) (not_le.mpr hov))]
      rw [← isMaxFin_units hM] at hmax
      cases rm <;> cases neg' <;> simp [overflowsToInf, Overflows, isVal_fpInf] <;> simpa [signFactor] using hmax
    · have hz : n = 0 := by
        have : ((n * 2 ^ q : ℕ) : ℝ) / 2 ^ w.unitExp = 0 := by rw [← habs, h0, abs_zero]
        have := (div_eq_zero_iff.mp this).resolve_right hU.ne'
        have := Nat.cast_eq_zero.mp this
        exact (Nat.mul_eq_zero.mp this).resolve_right (by positivity)
      obtain rfl : q = 0 := hp.2.resolve_right (by rw [hz]; exact not_le.mpr (by positivity))
      have : (0 : ℕ) < w.infMag := by cases w <;> decide
      rw [hz, if_pos (by simpa using this)]
      simpa [fpZero] using isVal_fpZero w neg'
    · have hb := hle.mp hfin
      rw [if_pos hb]
      have := encodes_fpOfMag (neg := neg') hb
      rwa [unitsOf_placed hp] at this

/-! ## The roundings of an exact value -/

/-- The spacing that `quantum` finds for a value of `t` whole units is that of its neighbours. -/
theorem between_of_floor {t : Nat} (ha : 0 < a) (h1 : (t : ℝ) ≤ a) (h2 : a < t + 1) :
    Between w (quantum w t) (t / 2 ^ quantum w t) a := by
  have hpos : 0 < 2 ^ quantum w t := by positivity
  refine ⟨ha, ?_, ?_, ?_, ?_⟩
  · rw [Nat.div_lt_iff_lt_mul hpos, ← pow_add]
    exact Nat.lt_log2_self.trans_le (Nat.pow_le_pow_right (by omega) (by unfold quantum; omega))
  · rcases Nat.eq_zero_or_pos (quantum w t) with h0 | h0
    · exact Or.inl h0
    · right
      rw [Nat.le_div_iff_mul_le hpos, ← pow_add]
      have ht : t ≠ 0 := by rintro rfl; unfold quantum FpWidth.precision at h0; cases w <;> simp [FpWidth.fracBits] at h0
      refine le_trans (Nat.pow_le_pow_right (by omega) ?_) (Nat.log2_self_le ht)
      unfold quantum FpWidth.precision at h0 ⊢; omega
  · exact le_trans (by exact_mod_cast Nat.div_mul_le_self _ _) h1
  · refine lt_of_lt_of_le h2 ?_
    exact_mod_cast Nat.succ_le_of_lt (Nat.lt_mul_of_div_lt (Nat.lt_succ_self _) hpos)

/-- R644: `roundRatio` rounds the value of `num / den` units. -/
theorem roundRatio_rounds (w : FpWidth) (rm : Round) (neg : Bool) {num den : Nat} (hn : 0 < num) (hd : 0 < den) :
    Rounds w rm (signFactor neg * ((num : ℝ) / den / 2 ^ w.unitExp)) (roundRatio w rm neg num den) := by
  have hdR : (0 : ℝ) < den := Nat.cast_pos.mpr hd
  have hb : Between w (quantum w (num / den)) (num / den / 2 ^ quantum w (num / den)) ((num : ℝ) / den) := by
    refine between_of_floor (div_pos (Nat.cast_pos.mpr hn) hdR) Nat.cast_div_le ?_
    rw [div_lt_iff₀ hdR]
    exact_mod_cast Nat.lt_mul_of_div_lt (Nat.lt_succ_self _) hd
  unfold roundRatio
  simp only
  generalize quantum w (num / den) = q at hb ⊢
  rw [Nat.div_div_eq_div_mul] at hb
  refine roundPack_rounds rm neg hb ?_
  -- the remainder of the division stands to the divisor as the value stands to the midpoint
  have hdiv : num = den * 2 ^ q * (num / (den * 2 ^ q)) + num % (den * 2 ^ q) := (Nat.div_add_mod _ _).symm
  generalize num / (den * 2 ^ q) = m at hdiv ⊢
  generalize num % (den * 2 ^ q) = rem at hdiv ⊢
  have hval : (num : ℝ) / den = (m * 2 ^ q : ℕ) + rem / den := by
    rw [hdiv]; push_cast; field_simp
  refine ⟨fun h => ?_, fun h => ?_, fun h => ?_, ?_⟩
  · have h' : ((2 * rem : ℕ) : ℝ) < (den * 2 ^ q : ℕ) := Nat.cast_lt.mpr (Nat.compare_eq_lt.mp h)
    rw [hval]; push_cast at h' ⊢
    have : 2 * ((rem : ℝ) / den) < 2 ^ q := by rw [← mul_div_assoc, div_lt_iff₀ hdR]; linarith
    linarith
  · have h' : ((2 * rem : ℕ) : ℝ) = (den * 2 ^ q : ℕ) := congrArg _ (Nat.compare_eq_eq.mp h)
    rw [hval]; push_cast at h' ⊢
    have : 2 * ((rem : ℝ) / den) = 2 ^ q := by rw [← mul_div_assoc, div_eq_iff hdR.ne']; linarith
    linarith
  · have h' : ((den * 2 ^ q : ℕ) : ℝ) < (2 * rem : ℕ) := Nat.cast_lt.mpr (Nat.compare_eq_gt.mp h)
    rw [hval]; push_cast at h' ⊢
    have : 2 ^ q < 2 * ((rem : ℝ) / den) := by rw [← mul_div_assoc, lt_div_iff₀ hdR]; linarith
    linarith
  · rw [hval, beq_iff_eq]
    constructor
    · rintro rfl; simp
    · intro h
      have : (rem : ℝ) / den = 0 := by linarith
      exact_mod_cast (div_eq_zero_iff.mp this).resolve_right hdR.ne'

/-- R644: `roundSigned` rounds a nonzero signed value of `r / den` units. -/
theorem roundSigned_rounds (w : FpWidth) (rm : Round) {r : Int} {den : Nat} (hr : r ≠ 0) (hd : 0 < den) :
    Rounds w rm ((r : ℝ) / den / 2 ^ w.unitExp) (roundSigned w rm r den) := by
  unfold roundSigned
  rw [if_neg hr]
  have h := roundRatio_rounds w rm (decide (r < 0)) (Int.natAbs_pos.mpr hr) hd
  have e : signFactor (decide (r < 0)) * ((r.natAbs : ℝ) / den / 2 ^ w.unitExp) = (r : ℝ) / den / 2 ^ w.unitExp := by
    have hc : (r.natAbs : ℝ) = |(r : ℝ)| := by rw [Nat.cast_natAbs, Int.cast_abs]
    rw [hc]
    rcases lt_or_ge r 0 with h | h
    · rw [decide_eq_true h, signFactor_true, abs_of_neg (by exact_mod_cast h)]; ring
    · rw [decide_eq_false (not_lt.mpr h), signFactor_false, abs_of_nonneg (by exact_mod_cast h), one_mul]
  rwa [e] at h

/-- R644, R663: `roundSqrt` rounds the root of `n` square units, where `isqrt` finds the whole units of it. -/
theorem roundSqrt_rounds (w : FpWidth) (rm : Round) {n : Nat} (hn : 0 < n) (h1 : isqrt n * isqrt n ≤ n)
    (h2 : n < (isqrt n + 1) * (isqrt n + 1)) : Rounds w rm (√(n : ℝ) / 2 ^ w.unitExp) (roundSqrt w rm n) := by
  have hnR : (0 : ℝ) ≤ n := Nat.cast_nonneg _
  have hb : Between w (quantum w (isqrt n)) (isqrt n / 2 ^ quantum w (isqrt n)) √(n : ℝ) := by
    refine between_of_floor (Real.sqrt_pos.mpr (Nat.cast_pos.mpr hn)) ?_ ?_
    · exact Real.le_sqrt_of_sq_le (by rw [sq]; exact_mod_cast h1)
    · rw [Real.sqrt_lt' (by positivity), sq]; exact_mod_cast h2
  unfold roundSqrt
  simp only
  generalize quantum w (isqrt n) = q at hb ⊢
  generalize isqrt n / 2 ^ q = m at hb ⊢
  have h := roundPack_rounds (half := compare (4 * n) (((2 * m + 1) * 2 ^ q) * ((2 * m + 1) * 2 ^ q)))
    (exact := (m * 2 ^ q) * (m * 2 ^ q) == n) rm false hb ?_
  · rwa [signFactor_false, one_mul] at h
  · have h4 : 2 * √(n : ℝ) = √((4 * n : ℕ) : ℝ) := by
      push_cast; rw [Real.sqrt_mul (by norm_num), show (4 : ℝ) = 2 ^ 2 by norm_num, Real.sqrt_sq (by norm_num)]
    have hsq (k : ℕ) : ((k : ℕ) : ℝ) = √((k * k : ℕ) : ℝ) := by push_cast; rw [Real.sqrt_mul_self (Nat.cast_nonneg _)]
    refine ⟨fun h => ?_, fun h => ?_, fun h => ?_, ?_⟩
    · rw [h4, hsq ((2 * m + 1) * 2 ^ q)]
      exact Real.sqrt_lt_sqrt (Nat.cast_nonneg _) (Nat.cast_lt.mpr (Nat.compare_eq_lt.mp h))
    · rw [h4, hsq ((2 * m + 1) * 2 ^ q), Nat.compare_eq_eq.mp h]
    · rw [h4, hsq ((2 * m + 1) * 2 ^ q)]
      exact Real.sqrt_lt_sqrt (Nat.cast_nonneg _) (Nat.cast_lt.mpr (Nat.compare_eq_gt.mp h))
    · rw [beq_iff_eq, hsq (m * 2 ^ q), Real.sqrt_inj hnR (Nat.cast_nonneg _), Nat.cast_inj]
      exact eq_comm

end Sys2Proof.Machine
end

