-- ==== Sys2Proof/Laws/Words.lean ====
section
/-! SUPPORT. The fields of a record's word: reading back each bit range of the layouts of spec/30_encoding.md (R112, R114) gives
the field it holds, and with them the slots of R118 and R119, the immediates of R120 and the primary decode of R115. -/

namespace Sys2Proof

/-! ## Bit ranges -/

@[simp] theorem word_mipsR_opcode (opcode : BitVec 6) (rs rt rd : RegIx) (shamt : BitVec 5) (funct : BitVec 6) :
    (Record.mipsR opcode rs rt rd shamt funct).word.extractLsb' 26 6 = opcode := by
  rw [Record.word, BitVec.extractLsb'_append_eq_of_le (v := 26) (w := 6) (by decide),
    BitVec.extractLsb'_append_eq_of_le (v := 21) (w := 5) (by decide),
    BitVec.extractLsb'_append_eq_of_le (v := 16) (w := 5) (by decide),
    BitVec.extractLsb'_append_eq_of_le (v := 11) (w := 5) (by decide),
    BitVec.extractLsb'_append_eq_of_le (v := 6) (w := 5) (by decide)]
  exact BitVec.extractLsb'_eq_self

@[simp] theorem word_mipsR_rs (opcode : BitVec 6) (rs rt rd : RegIx) (shamt : BitVec 5) (funct : BitVec 6) :
    (Record.mipsR opcode rs rt rd shamt funct).word.extractLsb' 21 5 = rs := by
  rw [Record.word, BitVec.extractLsb'_append_eq_of_le (v := 26) (w := 6) (by decide),
    BitVec.extractLsb'_append_eq_of_le (v := 21) (w := 5) (by decide),
    BitVec.extractLsb'_append_eq_of_le (v := 16) (w := 5) (by decide),
    BitVec.extractLsb'_append_eq_of_le (v := 11) (w := 5) (by decide),
    BitVec.extractLsb'_append_eq_of_add_le (v := 6) (w := 5) (by decide)]
  exact BitVec.extractLsb'_eq_self

@[simp] theorem word_mipsR_rt (opcode : BitVec 6) (rs rt rd : RegIx) (shamt : BitVec 5) (funct : BitVec 6) :
    (Record.mipsR opcode rs rt rd shamt funct).word.extractLsb' 16 5 = rt := by
  rw [Record.word, BitVec.extractLsb'_append_eq_of_le (v := 26) (w := 6) (by decide),
    BitVec.extractLsb'_append_eq_of_le (v := 21) (w := 5) (by decide),
    BitVec.extractLsb'_append_eq_of_le (v := 16) (w := 5) (by decide),
    BitVec.extractLsb'_append_eq_of_add_le (v := 11) (w := 5) (by decide)]
  exact BitVec.extractLsb'_eq_self

@[simp] theorem word_mipsR_rd (opcode : BitVec 6) (rs rt rd : RegIx) (shamt : BitVec 5) (funct : BitVec 6) :
    (Record.mipsR opcode rs rt rd shamt funct).word.extractLsb' 11 5 = rd := by
  rw [Record.word, BitVec.extractLsb'_append_eq_of_le (v := 26) (w := 6) (by decide),
    BitVec.extractLsb'_append_eq_of_le (v := 21) (w := 5) (by decide),
    BitVec.extractLsb'_append_eq_of_add_le (v := 16) (w := 5) (by decide)]
  exact BitVec.extractLsb'_eq_self

@[simp] theorem word_mipsR_shamt (opcode : BitVec 6) (rs rt rd : RegIx) (shamt : BitVec 5) (funct : BitVec 6) :
    (Record.mipsR opcode rs rt rd shamt funct).word.extractLsb' 6 5 = shamt := by
  rw [Record.word, BitVec.extractLsb'_append_eq_of_le (v := 26) (w := 6) (by decide),
    BitVec.extractLsb'_append_eq_of_add_le (v := 21) (w := 5) (by decide)]
  exact BitVec.extractLsb'_eq_self

@[simp] theorem word_mipsR_funct (opcode : BitVec 6) (rs rt rd : RegIx) (shamt : BitVec 5) (funct : BitVec 6) :
    (Record.mipsR opcode rs rt rd shamt funct).word.extractLsb' 0 6 = funct := by
  rw [Record.word, BitVec.extractLsb'_append_eq_of_add_le (v := 26) (w := 6) (by decide)]
  exact BitVec.extractLsb'_eq_self

@[simp] theorem word_mipsI_opcode (opcode : BitVec 6) (rs rt : RegIx) (imm16 : BitVec 16) :
    (Record.mipsI opcode rs rt imm16).word.extractLsb' 26 6 = opcode := by
  rw [Record.word, BitVec.extractLsb'_append_eq_of_le (v := 16) (w := 16) (by decide),
    BitVec.extractLsb'_append_eq_of_le (v := 11) (w := 5) (by decide),
    BitVec.extractLsb'_append_eq_of_le (v := 6) (w := 5) (by decide)]
  exact BitVec.extractLsb'_eq_self

@[simp] theorem word_mipsI_rs (opcode : BitVec 6) (rs rt : RegIx) (imm16 : BitVec 16) :
    (Record.mipsI opcode rs rt imm16).word.extractLsb' 21 5 = rs := by
  rw [Record.word, BitVec.extractLsb'_append_eq_of_le (v := 16) (w := 16) (by decide),
    BitVec.extractLsb'_append_eq_of_le (v := 11) (w := 5) (by decide),
    BitVec.extractLsb'_append_eq_of_add_le (v := 6) (w := 5) (by decide)]
  exact BitVec.extractLsb'_eq_self

@[simp] theorem word_mipsI_rt (opcode : BitVec 6) (rs rt : RegIx) (imm16 : BitVec 16) :
    (Record.mipsI opcode rs rt imm16).word.extractLsb' 16 5 = rt := by
  rw [Record.word, BitVec.extractLsb'_append_eq_of_le (v := 16) (w := 16) (by decide),
    BitVec.extractLsb'_append_eq_of_add_le (v := 11) (w := 5) (by decide)]
  exact BitVec.extractLsb'_eq_self

@[simp] theorem word_mipsI_imm16 (opcode : BitVec 6) (rs rt : RegIx) (imm16 : BitVec 16) :
    (Record.mipsI opcode rs rt imm16).word.extractLsb' 0 16 = imm16 := by
  rw [Record.word, BitVec.extractLsb'_append_eq_of_add_le (v := 16) (w := 16) (by decide)]
  exact BitVec.extractLsb'_eq_self

@[simp] theorem word_mipsJ_opcode (opcode : BitVec 6) (index : BitVec 26) :
    (Record.mipsJ opcode index).word.extractLsb' 26 6 = opcode := by
  rw [Record.word, BitVec.extractLsb'_append_eq_of_le (v := 6) (w := 26) (by decide)]
  exact BitVec.extractLsb'_eq_self

@[simp] theorem word_mipsJ_index (opcode : BitVec 6) (index : BitVec 26) :
    (Record.mipsJ opcode index).word.extractLsb' 0 26 = index := by
  rw [Record.word, BitVec.extractLsb'_append_eq_of_add_le (v := 6) (w := 26) (by decide)]
  exact BitVec.extractLsb'_eq_self

@[simp] theorem word_rvR_funct7 (funct7 : BitVec 7) (rs2 rs1 : RegIx) (funct3 : BitVec 3) (rd : RegIx) (opcode : BitVec 7) :
    (Record.rvR funct7 rs2 rs1 funct3 rd opcode).word.extractLsb' 25 7 = funct7 := by
  rw [Record.word, BitVec.extractLsb'_append_eq_of_le (v := 25) (w := 7) (by decide),
    BitVec.extractLsb'_append_eq_of_le (v := 20) (w := 5) (by decide),
    BitVec.extractLsb'_append_eq_of_le (v := 17) (w := 3) (by decide),
    BitVec.extractLsb'_append_eq_of_le (v := 12) (w := 5) (by decide),
    BitVec.extractLsb'_append_eq_of_le (v := 7) (w := 5) (by decide)]
  exact BitVec.extractLsb'_eq_self

@[simp] theorem word_rvR_rs2 (funct7 : BitVec 7) (rs2 rs1 : RegIx) (funct3 : BitVec 3) (rd : RegIx) (opcode : BitVec 7) :
    (Record.rvR funct7 rs2 rs1 funct3 rd opcode).word.extractLsb' 20 5 = rs2 := by
  rw [Record.word, BitVec.extractLsb'_append_eq_of_le (v := 25) (w := 7) (by decide),
    BitVec.extractLsb'_append_eq_of_le (v := 20) (w := 5) (by decide),
    BitVec.extractLsb'_append_eq_of_le (v := 17) (w := 3) (by decide),
    BitVec.extractLsb'_append_eq_of_le (v := 12) (w := 5) (by decide),
    BitVec.extractLsb'_append_eq_of_add_le (v := 7) (w := 5) (by decide)]
  exact BitVec.extractLsb'_eq_self

@[simp] theorem word_rvR_rs1 (funct7 : BitVec 7) (rs2 rs1 : RegIx) (funct3 : BitVec 3) (rd : RegIx) (opcode : BitVec 7) :
    (Record.rvR funct7 rs2 rs1 funct3 rd opcode).word.extractLsb' 15 5 = rs1 := by
  rw [Record.word, BitVec.extractLsb'_append_eq_of_le (v := 25) (w := 7) (by decide),
    BitVec.extractLsb'_append_eq_of_le (v := 20) (w := 5) (by decide),
    BitVec.extractLsb'_append_eq_of_le (v := 17) (w := 3) (by decide),
    BitVec.extractLsb'_append_eq_of_add_le (v := 12) (w := 5) (by decide)]
  exact BitVec.extractLsb'_eq_self

@[simp] theorem word_rvR_funct3 (funct7 : BitVec 7) (rs2 rs1 : RegIx) (funct3 : BitVec 3) (rd : RegIx) (opcode : BitVec 7) :
    (Record.rvR funct7 rs2 rs1 funct3 rd opcode).word.extractLsb' 12 3 = funct3 := by
  rw [Record.word, BitVec.extractLsb'_append_eq_of_le (v := 25) (w := 7) (by decide),
    BitVec.extractLsb'_append_eq_of_le (v := 20) (w := 5) (by decide),
    BitVec.extractLsb'_append_eq_of_add_le (v := 17) (w := 3) (by decide)]
  exact BitVec.extractLsb'_eq_self

@[simp] theorem word_rvR_rd (funct7 : BitVec 7) (rs2 rs1 : RegIx) (funct3 : BitVec 3) (rd : RegIx) (opcode : BitVec 7) :
    (Record.rvR funct7 rs2 rs1 funct3 rd opcode).word.extractLsb' 7 5 = rd := by
  rw [Record.word, BitVec.extractLsb'_append_eq_of_le (v := 25) (w := 7) (by decide),
    BitVec.extractLsb'_append_eq_of_add_le (v := 20) (w := 5) (by decide)]
  exact BitVec.extractLsb'_eq_self

@[simp] theorem word_rvR_opcode (funct7 : BitVec 7) (rs2 rs1 : RegIx) (funct3 : BitVec 3) (rd : RegIx) (opcode : BitVec 7) :
    (Record.rvR funct7 rs2 rs1 funct3 rd opcode).word.extractLsb' 0 7 = opcode := by
  rw [Record.word, BitVec.extractLsb'_append_eq_of_add_le (v := 25) (w := 7) (by decide)]
  exact BitVec.extractLsb'_eq_self

@[simp] theorem word_rvI_imm12 (imm12 : BitVec 12) (rs1 : RegIx) (funct3 : BitVec 3) (rd : RegIx) (opcode : BitVec 7) :
    (Record.rvI imm12 rs1 funct3 rd opcode).word.extractLsb' 20 12 = imm12 := by
  rw [Record.word, BitVec.extractLsb'_append_eq_of_le (v := 25) (w := 7) (by decide),
    BitVec.extractLsb'_append_eq_of_le (v := 20) (w := 5) (by decide),
    BitVec.extractLsb'_append_eq_of_le (v := 17) (w := 3) (by decide),
    BitVec.extractLsb'_append_eq_of_le (v := 12) (w := 5) (by decide)]
  exact BitVec.extractLsb'_eq_self

@[simp] theorem word_rvI_rs1 (imm12 : BitVec 12) (rs1 : RegIx) (funct3 : BitVec 3) (rd : RegIx) (opcode : BitVec 7) :
    (Record.rvI imm12 rs1 funct3 rd opcode).word.extractLsb' 15 5 = rs1 := by
  rw [Record.word, BitVec.extractLsb'_append_eq_of_le (v := 25) (w := 7) (by decide),
    BitVec.extractLsb'_append_eq_of_le (v := 20) (w := 5) (by decide),
    BitVec.extractLsb'_append_eq_of_le (v := 17) (w := 3) (by decide),
    BitVec.extractLsb'_append_eq_of_add_le (v := 12) (w := 5) (by decide)]
  exact BitVec.extractLsb'_eq_self

@[simp] theorem word_rvI_funct3 (imm12 : BitVec 12) (rs1 : RegIx) (funct3 : BitVec 3) (rd : RegIx) (opcode : BitVec 7) :
    (Record.rvI imm12 rs1 funct3 rd opcode).word.extractLsb' 12 3 = funct3 := by
  rw [Record.word, BitVec.extractLsb'_append_eq_of_le (v := 25) (w := 7) (by decide),
    BitVec.extractLsb'_append_eq_of_le (v := 20) (w := 5) (by decide),
    BitVec.extractLsb'_append_eq_of_add_le (v := 17) (w := 3) (by decide)]
  exact BitVec.extractLsb'_eq_self

@[simp] theorem word_rvI_rd (imm12 : BitVec 12) (rs1 : RegIx) (funct3 : BitVec 3) (rd : RegIx) (opcode : BitVec 7) :
    (Record.rvI imm12 rs1 funct3 rd opcode).word.extractLsb' 7 5 = rd := by
  rw [Record.word, BitVec.extractLsb'_append_eq_of_le (v := 25) (w := 7) (by decide),
    BitVec.extractLsb'_append_eq_of_add_le (v := 20) (w := 5) (by decide)]
  exact BitVec.extractLsb'_eq_self

@[simp] theorem word_rvI_opcode (imm12 : BitVec 12) (rs1 : RegIx) (funct3 : BitVec 3) (rd : RegIx) (opcode : BitVec 7) :
    (Record.rvI imm12 rs1 funct3 rd opcode).word.extractLsb' 0 7 = opcode := by
  rw [Record.word, BitVec.extractLsb'_append_eq_of_add_le (v := 25) (w := 7) (by decide)]
  exact BitVec.extractLsb'_eq_self

@[simp] theorem word_rvS_imm7 (imm7 : BitVec 7) (rs2 rs1 : RegIx) (funct3 : BitVec 3) (imm5 : BitVec 5) (opcode : BitVec 7) :
    (Record.rvS imm7 rs2 rs1 funct3 imm5 opcode).word.extractLsb' 25 7 = imm7 := by
  rw [Record.word, BitVec.extractLsb'_append_eq_of_le (v := 25) (w := 7) (by decide),
    BitVec.extractLsb'_append_eq_of_le (v := 20) (w := 5) (by decide),
    BitVec.extractLsb'_append_eq_of_le (v := 17) (w := 3) (by decide),
    BitVec.extractLsb'_append_eq_of_le (v := 12) (w := 5) (by decide),
    BitVec.extractLsb'_append_eq_of_le (v := 7) (w := 5) (by decide)]
  exact BitVec.extractLsb'_eq_self

@[simp] theorem word_rvS_rs2 (imm7 : BitVec 7) (rs2 rs1 : RegIx) (funct3 : BitVec 3) (imm5 : BitVec 5) (opcode : BitVec 7) :
    (Record.rvS imm7 rs2 rs1 funct3 imm5 opcode).word.extractLsb' 20 5 = rs2 := by
  rw [Record.word, BitVec.extractLsb'_append_eq_of_le (v := 25) (w := 7) (by decide),
    BitVec.extractLsb'_append_eq_of_le (v := 20) (w := 5) (by decide),
    BitVec.extractLsb'_append_eq_of_le (v := 17) (w := 3) (by decide),
    BitVec.extractLsb'_append_eq_of_le (v := 12) (w := 5) (by decide),
    BitVec.extractLsb'_append_eq_of_add_le (v := 7) (w := 5) (by decide)]
  exact BitVec.extractLsb'_eq_self

@[simp] theorem word_rvS_rs1 (imm7 : BitVec 7) (rs2 rs1 : RegIx) (funct3 : BitVec 3) (imm5 : BitVec 5) (opcode : BitVec 7) :
    (Record.rvS imm7 rs2 rs1 funct3 imm5 opcode).word.extractLsb' 15 5 = rs1 := by
  rw [Record.word, BitVec.extractLsb'_append_eq_of_le (v := 25) (w := 7) (by decide),
    BitVec.extractLsb'_append_eq_of_le (v := 20) (w := 5) (by decide),
    BitVec.extractLsb'_append_eq_of_le (v := 17) (w := 3) (by decide),
    BitVec.extractLsb'_append_eq_of_add_le (v := 12) (w := 5) (by decide)]
  exact BitVec.extractLsb'_eq_self

@[simp] theorem word_rvS_funct3 (imm7 : BitVec 7) (rs2 rs1 : RegIx) (funct3 : BitVec 3) (imm5 : BitVec 5) (opcode : BitVec 7) :
    (Record.rvS imm7 rs2 rs1 funct3 imm5 opcode).word.extractLsb' 12 3 = funct3 := by
  rw [Record.word, BitVec.extractLsb'_append_eq_of_le (v := 25) (w := 7) (by decide),
    BitVec.extractLsb'_append_eq_of_le (v := 20) (w := 5) (by decide),
    BitVec.extractLsb'_append_eq_of_add_le (v := 17) (w := 3) (by decide)]
  exact BitVec.extractLsb'_eq_self

@[simp] theorem word_rvS_imm5 (imm7 : BitVec 7) (rs2 rs1 : RegIx) (funct3 : BitVec 3) (imm5 : BitVec 5) (opcode : BitVec 7) :
    (Record.rvS imm7 rs2 rs1 funct3 imm5 opcode).word.extractLsb' 7 5 = imm5 := by
  rw [Record.word, BitVec.extractLsb'_append_eq_of_le (v := 25) (w := 7) (by decide),
    BitVec.extractLsb'_append_eq_of_add_le (v := 20) (w := 5) (by decide)]
  exact BitVec.extractLsb'_eq_self

@[simp] theorem word_rvS_opcode (imm7 : BitVec 7) (rs2 rs1 : RegIx) (funct3 : BitVec 3) (imm5 : BitVec 5) (opcode : BitVec 7) :
    (Record.rvS imm7 rs2 rs1 funct3 imm5 opcode).word.extractLsb' 0 7 = opcode := by
  rw [Record.word, BitVec.extractLsb'_append_eq_of_add_le (v := 25) (w := 7) (by decide)]
  exact BitVec.extractLsb'_eq_self

@[simp] theorem word_rvB_imm7 (imm7 : BitVec 7) (rs2 rs1 : RegIx) (funct3 : BitVec 3) (imm5 : BitVec 5) (opcode : BitVec 7) :
    (Record.rvB imm7 rs2 rs1 funct3 imm5 opcode).word.extractLsb' 25 7 = imm7 := by
  rw [Record.word, BitVec.extractLsb'_append_eq_of_le (v := 25) (w := 7) (by decide),
    BitVec.extractLsb'_append_eq_of_le (v := 20) (w := 5) (by decide),
    BitVec.extractLsb'_append_eq_of_le (v := 17) (w := 3) (by decide),
    BitVec.extractLsb'_append_eq_of_le (v := 12) (w := 5) (by decide),
    BitVec.extractLsb'_append_eq_of_le (v := 7) (w := 5) (by decide)]
  exact BitVec.extractLsb'_eq_self

@[simp] theorem word_rvB_rs2 (imm7 : BitVec 7) (rs2 rs1 : RegIx) (funct3 : BitVec 3) (imm5 : BitVec 5) (opcode : BitVec 7) :
    (Record.rvB imm7 rs2 rs1 funct3 imm5 opcode).word.extractLsb' 20 5 = rs2 := by
  rw [Record.word, BitVec.extractLsb'_append_eq_of_le (v := 25) (w := 7) (by decide),
    BitVec.extractLsb'_append_eq_of_le (v := 20) (w := 5) (by decide),
    BitVec.extractLsb'_append_eq_of_le (v := 17) (w := 3) (by decide),
    BitVec.extractLsb'_append_eq_of_le (v := 12) (w := 5) (by decide),
    BitVec.extractLsb'_append_eq_of_add_le (v := 7) (w := 5) (by decide)]
  exact BitVec.extractLsb'_eq_self

@[simp] theorem word_rvB_rs1 (imm7 : BitVec 7) (rs2 rs1 : RegIx) (funct3 : BitVec 3) (imm5 : BitVec 5) (opcode : BitVec 7) :
    (Record.rvB imm7 rs2 rs1 funct3 imm5 opcode).word.extractLsb' 15 5 = rs1 := by
  rw [Record.word, BitVec.extractLsb'_append_eq_of_le (v := 25) (w := 7) (by decide),
    BitVec.extractLsb'_append_eq_of_le (v := 20) (w := 5) (by decide),
    BitVec.extractLsb'_append_eq_of_le (v := 17) (w := 3) (by decide),
    BitVec.extractLsb'_append_eq_of_add_le (v := 12) (w := 5) (by decide)]
  exact BitVec.extractLsb'_eq_self

@[simp] theorem word_rvB_funct3 (imm7 : BitVec 7) (rs2 rs1 : RegIx) (funct3 : BitVec 3) (imm5 : BitVec 5) (opcode : BitVec 7) :
    (Record.rvB imm7 rs2 rs1 funct3 imm5 opcode).word.extractLsb' 12 3 = funct3 := by
  rw [Record.word, BitVec.extractLsb'_append_eq_of_le (v := 25) (w := 7) (by decide),
    BitVec.extractLsb'_append_eq_of_le (v := 20) (w := 5) (by decide),
    BitVec.extractLsb'_append_eq_of_add_le (v := 17) (w := 3) (by decide)]
  exact BitVec.extractLsb'_eq_self

@[simp] theorem word_rvB_imm5 (imm7 : BitVec 7) (rs2 rs1 : RegIx) (funct3 : BitVec 3) (imm5 : BitVec 5) (opcode : BitVec 7) :
    (Record.rvB imm7 rs2 rs1 funct3 imm5 opcode).word.extractLsb' 7 5 = imm5 := by
  rw [Record.word, BitVec.extractLsb'_append_eq_of_le (v := 25) (w := 7) (by decide),
    BitVec.extractLsb'_append_eq_of_add_le (v := 20) (w := 5) (by decide)]
  exact BitVec.extractLsb'_eq_self

@[simp] theorem word_rvB_opcode (imm7 : BitVec 7) (rs2 rs1 : RegIx) (funct3 : BitVec 3) (imm5 : BitVec 5) (opcode : BitVec 7) :
    (Record.rvB imm7 rs2 rs1 funct3 imm5 opcode).word.extractLsb' 0 7 = opcode := by
  rw [Record.word, BitVec.extractLsb'_append_eq_of_add_le (v := 25) (w := 7) (by decide)]
  exact BitVec.extractLsb'_eq_self

@[simp] theorem word_rvB_imm7_6_1 (imm7 : BitVec 7) (rs2 rs1 : RegIx) (funct3 : BitVec 3) (imm5 : BitVec 5) (opcode : BitVec 7) :
    (Record.rvB imm7 rs2 rs1 funct3 imm5 opcode).word.extractLsb' 31 1 = imm7.extractLsb' 6 1 := by
  rw [Record.word, BitVec.extractLsb'_append_eq_of_le (v := 25) (w := 7) (by decide),
    BitVec.extractLsb'_append_eq_of_le (v := 20) (w := 5) (by decide),
    BitVec.extractLsb'_append_eq_of_le (v := 17) (w := 3) (by decide),
    BitVec.extractLsb'_append_eq_of_le (v := 12) (w := 5) (by decide),
    BitVec.extractLsb'_append_eq_of_le (v := 7) (w := 5) (by decide)]

@[simp] theorem word_rvB_imm5_0_1 (imm7 : BitVec 7) (rs2 rs1 : RegIx) (funct3 : BitVec 3) (imm5 : BitVec 5) (opcode : BitVec 7) :
    (Record.rvB imm7 rs2 rs1 funct3 imm5 opcode).word.extractLsb' 7 1 = imm5.extractLsb' 0 1 := by
  rw [Record.word, BitVec.extractLsb'_append_eq_of_le (v := 25) (w := 7) (by decide),
    BitVec.extractLsb'_append_eq_of_add_le (v := 20) (w := 5) (by decide)]

@[simp] theorem word_rvB_imm7_0_6 (imm7 : BitVec 7) (rs2 rs1 : RegIx) (funct3 : BitVec 3) (imm5 : BitVec 5) (opcode : BitVec 7) :
    (Record.rvB imm7 rs2 rs1 funct3 imm5 opcode).word.extractLsb' 25 6 = imm7.extractLsb' 0 6 := by
  rw [Record.word, BitVec.extractLsb'_append_eq_of_le (v := 25) (w := 7) (by decide),
    BitVec.extractLsb'_append_eq_of_le (v := 20) (w := 5) (by decide),
    BitVec.extractLsb'_append_eq_of_le (v := 17) (w := 3) (by decide),
    BitVec.extractLsb'_append_eq_of_le (v := 12) (w := 5) (by decide),
    BitVec.extractLsb'_append_eq_of_le (v := 7) (w := 5) (by decide)]

@[simp] theorem word_rvB_imm5_1_4 (imm7 : BitVec 7) (rs2 rs1 : RegIx) (funct3 : BitVec 3) (imm5 : BitVec 5) (opcode : BitVec 7) :
    (Record.rvB imm7 rs2 rs1 funct3 imm5 opcode).word.extractLsb' 8 4 = imm5.extractLsb' 1 4 := by
  rw [Record.word, BitVec.extractLsb'_append_eq_of_le (v := 25) (w := 7) (by decide),
    BitVec.extractLsb'_append_eq_of_add_le (v := 20) (w := 5) (by decide)]

@[simp] theorem word_rvU_imm20 (imm20 : BitVec 20) (rd : RegIx) (opcode : BitVec 7) :
    (Record.rvU imm20 rd opcode).word.extractLsb' 12 20 = imm20 := by
  rw [Record.word, BitVec.extractLsb'_append_eq_of_le (v := 25) (w := 7) (by decide),
    BitVec.extractLsb'_append_eq_of_le (v := 20) (w := 5) (by decide)]
  exact BitVec.extractLsb'_eq_self

@[simp] theorem word_rvU_rd (imm20 : BitVec 20) (rd : RegIx) (opcode : BitVec 7) :
    (Record.rvU imm20 rd opcode).word.extractLsb' 7 5 = rd := by
  rw [Record.word, BitVec.extractLsb'_append_eq_of_le (v := 25) (w := 7) (by decide),
    BitVec.extractLsb'_append_eq_of_add_le (v := 20) (w := 5) (by decide)]
  exact BitVec.extractLsb'_eq_self

@[simp] theorem word_rvU_opcode (imm20 : BitVec 20) (rd : RegIx) (opcode : BitVec 7) :
    (Record.rvU imm20 rd opcode).word.extractLsb' 0 7 = opcode := by
  rw [Record.word, BitVec.extractLsb'_append_eq_of_add_le (v := 25) (w := 7) (by decide)]
  exact BitVec.extractLsb'_eq_self

@[simp] theorem word_rvJ_imm20 (imm20 : BitVec 20) (rd : RegIx) (opcode : BitVec 7) :
    (Record.rvJ imm20 rd opcode).word.extractLsb' 12 20 = imm20 := by
  rw [Record.word, BitVec.extractLsb'_append_eq_of_le (v := 25) (w := 7) (by decide),
    BitVec.extractLsb'_append_eq_of_le (v := 20) (w := 5) (by decide)]
  exact BitVec.extractLsb'_eq_self

@[simp] theorem word_rvJ_rd (imm20 : BitVec 20) (rd : RegIx) (opcode : BitVec 7) :
    (Record.rvJ imm20 rd opcode).word.extractLsb' 7 5 = rd := by
  rw [Record.word, BitVec.extractLsb'_append_eq_of_le (v := 25) (w := 7) (by decide),
    BitVec.extractLsb'_append_eq_of_add_le (v := 20) (w := 5) (by decide)]
  exact BitVec.extractLsb'_eq_self

@[simp] theorem word_rvJ_opcode (imm20 : BitVec 20) (rd : RegIx) (opcode : BitVec 7) :
    (Record.rvJ imm20 rd opcode).word.extractLsb' 0 7 = opcode := by
  rw [Record.word, BitVec.extractLsb'_append_eq_of_add_le (v := 25) (w := 7) (by decide)]
  exact BitVec.extractLsb'_eq_self

@[simp] theorem word_rvJ_imm20_19_1 (imm20 : BitVec 20) (rd : RegIx) (opcode : BitVec 7) :
    (Record.rvJ imm20 rd opcode).word.extractLsb' 31 1 = imm20.extractLsb' 19 1 := by
  rw [Record.word, BitVec.extractLsb'_append_eq_of_le (v := 25) (w := 7) (by decide),
    BitVec.extractLsb'_append_eq_of_le (v := 20) (w := 5) (by decide)]

@[simp] theorem word_rvJ_imm20_0_8 (imm20 : BitVec 20) (rd : RegIx) (opcode : BitVec 7) :
    (Record.rvJ imm20 rd opcode).word.extractLsb' 12 8 = imm20.extractLsb' 0 8 := by
  rw [Record.word, BitVec.extractLsb'_append_eq_of_le (v := 25) (w := 7) (by decide),
    BitVec.extractLsb'_append_eq_of_le (v := 20) (w := 5) (by decide)]

@[simp] theorem word_rvJ_imm20_8_1 (imm20 : BitVec 20) (rd : RegIx) (opcode : BitVec 7) :
    (Record.rvJ imm20 rd opcode).word.extractLsb' 20 1 = imm20.extractLsb' 8 1 := by
  rw [Record.word, BitVec.extractLsb'_append_eq_of_le (v := 25) (w := 7) (by decide),
    BitVec.extractLsb'_append_eq_of_le (v := 20) (w := 5) (by decide)]

@[simp] theorem word_rvJ_imm20_9_10 (imm20 : BitVec 20) (rd : RegIx) (opcode : BitVec 7) :
    (Record.rvJ imm20 rd opcode).word.extractLsb' 21 10 = imm20.extractLsb' 9 10 := by
  rw [Record.word, BitVec.extractLsb'_append_eq_of_le (v := 25) (w := 7) (by decide),
    BitVec.extractLsb'_append_eq_of_le (v := 20) (w := 5) (by decide)]

@[simp] theorem word_rvR4_rs3 (rs3 : RegIx) (funct2 : BitVec 2) (rs2 rs1 : RegIx) (funct3 : BitVec 3) (rd : RegIx) (opcode : BitVec 7) :
    (Record.rvR4 rs3 funct2 rs2 rs1 funct3 rd opcode).word.extractLsb' 27 5 = rs3 := by
  rw [Record.word, BitVec.extractLsb'_append_eq_of_le (v := 25) (w := 7) (by decide),
    BitVec.extractLsb'_append_eq_of_le (v := 20) (w := 5) (by decide),
    BitVec.extractLsb'_append_eq_of_le (v := 17) (w := 3) (by decide),
    BitVec.extractLsb'_append_eq_of_le (v := 12) (w := 5) (by decide),
    BitVec.extractLsb'_append_eq_of_le (v := 7) (w := 5) (by decide),
    BitVec.extractLsb'_append_eq_of_le (v := 5) (w := 2) (by decide)]
  exact BitVec.extractLsb'_eq_self

@[simp] theorem word_rvR4_funct2 (rs3 : RegIx) (funct2 : BitVec 2) (rs2 rs1 : RegIx) (funct3 : BitVec 3) (rd : RegIx) (opcode : BitVec 7) :
    (Record.rvR4 rs3 funct2 rs2 rs1 funct3 rd opcode).word.extractLsb' 25 2 = funct2 := by
  rw [Record.word, BitVec.extractLsb'_append_eq_of_le (v := 25) (w := 7) (by decide),
    BitVec.extractLsb'_append_eq_of_le (v := 20) (w := 5) (by decide),
    BitVec.extractLsb'_append_eq_of_le (v := 17) (w := 3) (by decide),
    BitVec.extractLsb'_append_eq_of_le (v := 12) (w := 5) (by decide),
    BitVec.extractLsb'_append_eq_of_le (v := 7) (w := 5) (by decide),
    BitVec.extractLsb'_append_eq_of_add_le (v := 5) (w := 2) (by decide)]
  exact BitVec.extractLsb'_eq_self

@[simp] theorem word_rvR4_rs2 (rs3 : RegIx) (funct2 : BitVec 2) (rs2 rs1 : RegIx) (funct3 : BitVec 3) (rd : RegIx) (opcode : BitVec 7) :
    (Record.rvR4 rs3 funct2 rs2 rs1 funct3 rd opcode).word.extractLsb' 20 5 = rs2 := by
  rw [Record.word, BitVec.extractLsb'_append_eq_of_le (v := 25) (w := 7) (by decide),
    BitVec.extractLsb'_append_eq_of_le (v := 20) (w := 5) (by decide),
    BitVec.extractLsb'_append_eq_of_le (v := 17) (w := 3) (by decide),
    BitVec.extractLsb'_append_eq_of_le (v := 12) (w := 5) (by decide),
    BitVec.extractLsb'_append_eq_of_add_le (v := 7) (w := 5) (by decide)]
  exact BitVec.extractLsb'_eq_self

@[simp] theorem word_rvR4_rs1 (rs3 : RegIx) (funct2 : BitVec 2) (rs2 rs1 : RegIx) (funct3 : BitVec 3) (rd : RegIx) (opcode : BitVec 7) :
    (Record.rvR4 rs3 funct2 rs2 rs1 funct3 rd opcode).word.extractLsb' 15 5 = rs1 := by
  rw [Record.word, BitVec.extractLsb'_append_eq_of_le (v := 25) (w := 7) (by decide),
    BitVec.extractLsb'_append_eq_of_le (v := 20) (w := 5) (by decide),
    BitVec.extractLsb'_append_eq_of_le (v := 17) (w := 3) (by decide),
    BitVec.extractLsb'_append_eq_of_add_le (v := 12) (w := 5) (by decide)]
  exact BitVec.extractLsb'_eq_self

@[simp] theorem word_rvR4_funct3 (rs3 : RegIx) (funct2 : BitVec 2) (rs2 rs1 : RegIx) (funct3 : BitVec 3) (rd : RegIx) (opcode : BitVec 7) :
    (Record.rvR4 rs3 funct2 rs2 rs1 funct3 rd opcode).word.extractLsb' 12 3 = funct3 := by
  rw [Record.word, BitVec.extractLsb'_append_eq_of_le (v := 25) (w := 7) (by decide),
    BitVec.extractLsb'_append_eq_of_le (v := 20) (w := 5) (by decide),
    BitVec.extractLsb'_append_eq_of_add_le (v := 17) (w := 3) (by decide)]
  exact BitVec.extractLsb'_eq_self

@[simp] theorem word_rvR4_rd (rs3 : RegIx) (funct2 : BitVec 2) (rs2 rs1 : RegIx) (funct3 : BitVec 3) (rd : RegIx) (opcode : BitVec 7) :
    (Record.rvR4 rs3 funct2 rs2 rs1 funct3 rd opcode).word.extractLsb' 7 5 = rd := by
  rw [Record.word, BitVec.extractLsb'_append_eq_of_le (v := 25) (w := 7) (by decide),
    BitVec.extractLsb'_append_eq_of_add_le (v := 20) (w := 5) (by decide)]
  exact BitVec.extractLsb'_eq_self

@[simp] theorem word_rvR4_opcode (rs3 : RegIx) (funct2 : BitVec 2) (rs2 rs1 : RegIx) (funct3 : BitVec 3) (rd : RegIx) (opcode : BitVec 7) :
    (Record.rvR4 rs3 funct2 rs2 rs1 funct3 rd opcode).word.extractLsb' 0 7 = opcode := by
  rw [Record.word, BitVec.extractLsb'_append_eq_of_add_le (v := 25) (w := 7) (by decide)]
  exact BitVec.extractLsb'_eq_self

/-! ## Primary opcodes and the primary decode (R115 to R117) -/

@[simp] theorem mipsOpcode_mipsR (opcode : BitVec 6) (rs rt rd : RegIx) (shamt : BitVec 5) (funct : BitVec 6) : mipsOpcode (Record.mipsR opcode rs rt rd shamt funct).word = opcode := by
  simp [mipsOpcode]

@[simp] theorem mipsOpcode_mipsI (opcode : BitVec 6) (rs rt : RegIx) (imm16 : BitVec 16) : mipsOpcode (Record.mipsI opcode rs rt imm16).word = opcode := by
  simp [mipsOpcode]

@[simp] theorem mipsOpcode_mipsJ (opcode : BitVec 6) (index : BitVec 26) : mipsOpcode (Record.mipsJ opcode index).word = opcode := by
  simp [mipsOpcode]

@[simp] theorem rvOpcode_rvR (funct7 : BitVec 7) (rs2 rs1 : RegIx) (funct3 : BitVec 3) (rd : RegIx) (opcode : BitVec 7) : rvOpcode (Record.rvR funct7 rs2 rs1 funct3 rd opcode).word = opcode := by
  simp [rvOpcode]

@[simp] theorem rvOpcode_rvI (imm12 : BitVec 12) (rs1 : RegIx) (funct3 : BitVec 3) (rd : RegIx) (opcode : BitVec 7) : rvOpcode (Record.rvI imm12 rs1 funct3 rd opcode).word = opcode := by
  simp [rvOpcode]

@[simp] theorem rvOpcode_rvS (imm7 : BitVec 7) (rs2 rs1 : RegIx) (funct3 : BitVec 3) (imm5 : BitVec 5) (opcode : BitVec 7) : rvOpcode (Record.rvS imm7 rs2 rs1 funct3 imm5 opcode).word = opcode := by
  simp [rvOpcode]

@[simp] theorem rvOpcode_rvB (imm7 : BitVec 7) (rs2 rs1 : RegIx) (funct3 : BitVec 3) (imm5 : BitVec 5) (opcode : BitVec 7) : rvOpcode (Record.rvB imm7 rs2 rs1 funct3 imm5 opcode).word = opcode := by
  simp [rvOpcode]

@[simp] theorem rvOpcode_rvU (imm20 : BitVec 20) (rd : RegIx) (opcode : BitVec 7) : rvOpcode (Record.rvU imm20 rd opcode).word = opcode := by
  simp [rvOpcode]

@[simp] theorem rvOpcode_rvJ (imm20 : BitVec 20) (rd : RegIx) (opcode : BitVec 7) : rvOpcode (Record.rvJ imm20 rd opcode).word = opcode := by
  simp [rvOpcode]

@[simp] theorem rvOpcode_rvR4 (rs3 : RegIx) (funct2 : BitVec 2) (rs2 rs1 : RegIx) (funct3 : BitVec 3) (rd : RegIx) (opcode : BitVec 7) : rvOpcode (Record.rvR4 rs3 funct2 rs2 rs1 funct3 rd opcode).word = opcode := by
  simp [rvOpcode]

/-- A record's word decodes to the record, where its opcode is one of its variant. -/
theorem decodeRecord_mipsR (opcode : BitVec 6) (rs rt rd : RegIx) (shamt : BitVec 5) (funct : BitVec 6)
    (h : mipsVariant opcode = some .rType) :
    decodeRecord .mips64l (Record.mipsR opcode rs rt rd shamt funct).word = some (.mipsR opcode rs rt rd shamt funct) := by
  simp [decodeRecord, decodeMips, h, mipsRFields]

/-- A record's word decodes to the record, where its opcode is one of its variant. -/
theorem decodeRecord_mipsI (opcode : BitVec 6) (rs rt : RegIx) (imm16 : BitVec 16)
    (h : mipsVariant opcode = some .iType) :
    decodeRecord .mips64l (Record.mipsI opcode rs rt imm16).word = some (.mipsI opcode rs rt imm16) := by
  simp [decodeRecord, decodeMips, h, mipsIFields]

/-- A record's word decodes to the record, where its opcode is one of its variant. -/
theorem decodeRecord_mipsJ (opcode : BitVec 6) (index : BitVec 26)
    (h : mipsVariant opcode = some .jType) :
    decodeRecord .mips64l (Record.mipsJ opcode index).word = some (.mipsJ opcode index) := by
  simp [decodeRecord, decodeMips, h, mipsJFields]

/-- A record's word decodes to the record, where its opcode is one of its variant. -/
theorem decodeRecord_rvR (funct7 : BitVec 7) (rs2 rs1 : RegIx) (funct3 : BitVec 3) (rd : RegIx) (opcode : BitVec 7)
    (h : rvVariant opcode = some .rType) :
    decodeRecord .rv64l (Record.rvR funct7 rs2 rs1 funct3 rd opcode).word = some (.rvR funct7 rs2 rs1 funct3 rd opcode) := by
  simp [decodeRecord, decodeRv, h]

/-- A record's word decodes to the record, where its opcode is one of its variant. -/
theorem decodeRecord_rvI (imm12 : BitVec 12) (rs1 : RegIx) (funct3 : BitVec 3) (rd : RegIx) (opcode : BitVec 7)
    (h : rvVariant opcode = some .iType) :
    decodeRecord .rv64l (Record.rvI imm12 rs1 funct3 rd opcode).word = some (.rvI imm12 rs1 funct3 rd opcode) := by
  simp [decodeRecord, decodeRv, h]

/-- A record's word decodes to the record, where its opcode is one of its variant. -/
theorem decodeRecord_rvS (imm7 : BitVec 7) (rs2 rs1 : RegIx) (funct3 : BitVec 3) (imm5 : BitVec 5) (opcode : BitVec 7)
    (h : rvVariant opcode = some .sType) :
    decodeRecord .rv64l (Record.rvS imm7 rs2 rs1 funct3 imm5 opcode).word = some (.rvS imm7 rs2 rs1 funct3 imm5 opcode) := by
  simp [decodeRecord, decodeRv, h]

/-- A record's word decodes to the record, where its opcode is one of its variant. -/
theorem decodeRecord_rvB (imm7 : BitVec 7) (rs2 rs1 : RegIx) (funct3 : BitVec 3) (imm5 : BitVec 5) (opcode : BitVec 7)
    (h : rvVariant opcode = some .bType) :
    decodeRecord .rv64l (Record.rvB imm7 rs2 rs1 funct3 imm5 opcode).word = some (.rvB imm7 rs2 rs1 funct3 imm5 opcode) := by
  simp [decodeRecord, decodeRv, h]

/-- A record's word decodes to the record, where its opcode is one of its variant. -/
theorem decodeRecord_rvU (imm20 : BitVec 20) (rd : RegIx) (opcode : BitVec 7)
    (h : rvVariant opcode = some .uType) :
    decodeRecord .rv64l (Record.rvU imm20 rd opcode).word = some (.rvU imm20 rd opcode) := by
  simp [decodeRecord, decodeRv, h]

/-- A record's word decodes to the record, where its opcode is one of its variant. -/
theorem decodeRecord_rvJ (imm20 : BitVec 20) (rd : RegIx) (opcode : BitVec 7)
    (h : rvVariant opcode = some .jType) :
    decodeRecord .rv64l (Record.rvJ imm20 rd opcode).word = some (.rvJ imm20 rd opcode) := by
  simp [decodeRecord, decodeRv, h]

/-- A record's word decodes to the record, where its opcode is one of its variant. -/
theorem decodeRecord_rvR4 (rs3 : RegIx) (funct2 : BitVec 2) (rs2 rs1 : RegIx) (funct3 : BitVec 3) (rd : RegIx) (opcode : BitVec 7)
    (h : rvVariant opcode = some .r4Type) :
    decodeRecord .rv64l (Record.rvR4 rs3 funct2 rs2 rs1 funct3 rd opcode).word = some (.rvR4 rs3 funct2 rs2 rs1 funct3 rd opcode) := by
  simp [decodeRecord, decodeRv, h]

/-- R113: a `COP1` word decodes to `RType` unless `w[25:21]` is `01000`. -/
theorem decodeRecord_cop1R (rs rt rd : RegIx) (shamt : BitVec 5) (funct : BitVec 6) (h : rs ≠ 0b01000#5) :
    decodeRecord .mips64l (Record.mipsR 0b010001#6 rs rt rd shamt funct).word =
      some (.mipsR 0b010001#6 rs rt rd shamt funct) := by
  simp [decodeRecord, decodeMips, mipsVariant, mipsRFields, h]

/-- R113: a `COP1` word whose `w[25:21]` is `01000` decodes to `IType`. -/
theorem decodeRecord_cop1I (rt : RegIx) (imm16 : BitVec 16) :
    decodeRecord .mips64l (Record.mipsI 0b010001#6 0b01000#5 rt imm16).word =
      some (.mipsI 0b010001#6 0b01000#5 rt imm16) := by
  simp [decodeRecord, decodeMips, mipsVariant, mipsIFields]


/-! ## Slots (R118, R119) -/

namespace Machine

@[simp] theorem slot1_mipsR (opcode : BitVec 6) (rs rt rd : RegIx) (shamt : BitVec 5) (funct : BitVec 6) :
    slot1 .mips64l (Record.mipsR opcode rs rt rd shamt funct).word = rs := by
  simp [slot1]

@[simp] theorem slot2_mipsR (opcode : BitVec 6) (rs rt rd : RegIx) (shamt : BitVec 5) (funct : BitVec 6) :
    slot2 .mips64l (Record.mipsR opcode rs rt rd shamt funct).word = rt := by
  simp [slot2]

@[simp] theorem slotd_mipsR (opcode : BitVec 6) (rs rt rd : RegIx) (shamt : BitVec 5) (funct : BitVec 6) :
    slotd .mips64l (Record.mipsR opcode rs rt rd shamt funct).word = rd := by
  simp [slotd]

@[simp] theorem faSlot_mipsR (opcode : BitVec 6) (rs rt rd : RegIx) (shamt : BitVec 5) (funct : BitVec 6) :
    faSlot .mips64l (Record.mipsR opcode rs rt rd shamt funct).word = rd := by
  simp [faSlot]

@[simp] theorem fbSlot_mipsR (opcode : BitVec 6) (rs rt rd : RegIx) (shamt : BitVec 5) (funct : BitVec 6) :
    fbSlot .mips64l (Record.mipsR opcode rs rt rd shamt funct).word = rt := by
  simp [fbSlot]

@[simp] theorem fpuDst_fdSlot_mipsR (opcode : BitVec 6) (rs rt rd : RegIx) (shamt : BitVec 5) (funct : BitVec 6) :
    fpuDst .mips64l .fdSlot (Record.mipsR opcode rs rt rd shamt funct).word = shamt := by
  simp [fpuDst]

@[simp] theorem fpuDst_fsSlot_mipsR (opcode : BitVec 6) (rs rt rd : RegIx) (shamt : BitVec 5) (funct : BitVec 6) :
    fpuDst .mips64l .fsSlot (Record.mipsR opcode rs rt rd shamt funct).word = rd := by
  simp [fpuDst]

@[simp] theorem fpuDst_ftSlot_mipsR (opcode : BitVec 6) (rs rt rd : RegIx) (shamt : BitVec 5) (funct : BitVec 6) :
    fpuDst .mips64l .ftSlot (Record.mipsR opcode rs rt rd shamt funct).word = rt := by
  simp [fpuDst]

@[simp] theorem slot1_mipsI (opcode : BitVec 6) (rs rt : RegIx) (imm16 : BitVec 16) :
    slot1 .mips64l (Record.mipsI opcode rs rt imm16).word = rs := by
  simp [slot1]

@[simp] theorem slot2_mipsI (opcode : BitVec 6) (rs rt : RegIx) (imm16 : BitVec 16) :
    slot2 .mips64l (Record.mipsI opcode rs rt imm16).word = rt := by
  simp [slot2]

@[simp] theorem fbSlot_mipsI (opcode : BitVec 6) (rs rt : RegIx) (imm16 : BitVec 16) :
    fbSlot .mips64l (Record.mipsI opcode rs rt imm16).word = rt := by
  simp [fbSlot]

@[simp] theorem fpuDst_ftSlot_mipsI (opcode : BitVec 6) (rs rt : RegIx) (imm16 : BitVec 16) :
    fpuDst .mips64l .ftSlot (Record.mipsI opcode rs rt imm16).word = rt := by
  simp [fpuDst]

@[simp] theorem slot1_rvR (funct7 : BitVec 7) (rs2 rs1 : RegIx) (funct3 : BitVec 3) (rd : RegIx) (opcode : BitVec 7) :
    slot1 .rv64l (Record.rvR funct7 rs2 rs1 funct3 rd opcode).word = rs1 := by
  simp [slot1]

@[simp] theorem slot2_rvR (funct7 : BitVec 7) (rs2 rs1 : RegIx) (funct3 : BitVec 3) (rd : RegIx) (opcode : BitVec 7) :
    slot2 .rv64l (Record.rvR funct7 rs2 rs1 funct3 rd opcode).word = rs2 := by
  simp [slot2]

@[simp] theorem slotd_rvR (funct7 : BitVec 7) (rs2 rs1 : RegIx) (funct3 : BitVec 3) (rd : RegIx) (opcode : BitVec 7) :
    slotd .rv64l (Record.rvR funct7 rs2 rs1 funct3 rd opcode).word = rd := by
  simp [slotd]

@[simp] theorem faSlot_rvR (funct7 : BitVec 7) (rs2 rs1 : RegIx) (funct3 : BitVec 3) (rd : RegIx) (opcode : BitVec 7) :
    faSlot .rv64l (Record.rvR funct7 rs2 rs1 funct3 rd opcode).word = rs1 := by
  simp [faSlot]

@[simp] theorem fbSlot_rvR (funct7 : BitVec 7) (rs2 rs1 : RegIx) (funct3 : BitVec 3) (rd : RegIx) (opcode : BitVec 7) :
    fbSlot .rv64l (Record.rvR funct7 rs2 rs1 funct3 rd opcode).word = rs2 := by
  simp [fbSlot]

@[simp] theorem fpuDst_fdSlot_rvR (funct7 : BitVec 7) (rs2 rs1 : RegIx) (funct3 : BitVec 3) (rd : RegIx) (opcode : BitVec 7) :
    fpuDst .rv64l .fdSlot (Record.rvR funct7 rs2 rs1 funct3 rd opcode).word = rd := by
  simp [fpuDst]

@[simp] theorem slot1_rvI (imm12 : BitVec 12) (rs1 : RegIx) (funct3 : BitVec 3) (rd : RegIx) (opcode : BitVec 7) :
    slot1 .rv64l (Record.rvI imm12 rs1 funct3 rd opcode).word = rs1 := by
  simp [slot1]

@[simp] theorem slotd_rvI (imm12 : BitVec 12) (rs1 : RegIx) (funct3 : BitVec 3) (rd : RegIx) (opcode : BitVec 7) :
    slotd .rv64l (Record.rvI imm12 rs1 funct3 rd opcode).word = rd := by
  simp [slotd]

@[simp] theorem faSlot_rvI (imm12 : BitVec 12) (rs1 : RegIx) (funct3 : BitVec 3) (rd : RegIx) (opcode : BitVec 7) :
    faSlot .rv64l (Record.rvI imm12 rs1 funct3 rd opcode).word = rs1 := by
  simp [faSlot]

@[simp] theorem fpuDst_fdSlot_rvI (imm12 : BitVec 12) (rs1 : RegIx) (funct3 : BitVec 3) (rd : RegIx) (opcode : BitVec 7) :
    fpuDst .rv64l .fdSlot (Record.rvI imm12 rs1 funct3 rd opcode).word = rd := by
  simp [fpuDst]

@[simp] theorem slot1_rvS (imm7 : BitVec 7) (rs2 rs1 : RegIx) (funct3 : BitVec 3) (imm5 : BitVec 5) (opcode : BitVec 7) :
    slot1 .rv64l (Record.rvS imm7 rs2 rs1 funct3 imm5 opcode).word = rs1 := by
  simp [slot1]

@[simp] theorem slot2_rvS (imm7 : BitVec 7) (rs2 rs1 : RegIx) (funct3 : BitVec 3) (imm5 : BitVec 5) (opcode : BitVec 7) :
    slot2 .rv64l (Record.rvS imm7 rs2 rs1 funct3 imm5 opcode).word = rs2 := by
  simp [slot2]

@[simp] theorem slotd_rvS (imm7 : BitVec 7) (rs2 rs1 : RegIx) (funct3 : BitVec 3) (imm5 : BitVec 5) (opcode : BitVec 7) :
    slotd .rv64l (Record.rvS imm7 rs2 rs1 funct3 imm5 opcode).word = imm5 := by
  simp [slotd]

@[simp] theorem faSlot_rvS (imm7 : BitVec 7) (rs2 rs1 : RegIx) (funct3 : BitVec 3) (imm5 : BitVec 5) (opcode : BitVec 7) :
    faSlot .rv64l (Record.rvS imm7 rs2 rs1 funct3 imm5 opcode).word = rs1 := by
  simp [faSlot]

@[simp] theorem fbSlot_rvS (imm7 : BitVec 7) (rs2 rs1 : RegIx) (funct3 : BitVec 3) (imm5 : BitVec 5) (opcode : BitVec 7) :
    fbSlot .rv64l (Record.rvS imm7 rs2 rs1 funct3 imm5 opcode).word = rs2 := by
  simp [fbSlot]

@[simp] theorem fpuDst_fdSlot_rvS (imm7 : BitVec 7) (rs2 rs1 : RegIx) (funct3 : BitVec 3) (imm5 : BitVec 5) (opcode : BitVec 7) :
    fpuDst .rv64l .fdSlot (Record.rvS imm7 rs2 rs1 funct3 imm5 opcode).word = imm5 := by
  simp [fpuDst]

@[simp] theorem slot1_rvB (imm7 : BitVec 7) (rs2 rs1 : RegIx) (funct3 : BitVec 3) (imm5 : BitVec 5) (opcode : BitVec 7) :
    slot1 .rv64l (Record.rvB imm7 rs2 rs1 funct3 imm5 opcode).word = rs1 := by
  simp [slot1]

@[simp] theorem slot2_rvB (imm7 : BitVec 7) (rs2 rs1 : RegIx) (funct3 : BitVec 3) (imm5 : BitVec 5) (opcode : BitVec 7) :
    slot2 .rv64l (Record.rvB imm7 rs2 rs1 funct3 imm5 opcode).word = rs2 := by
  simp [slot2]

@[simp] theorem slotd_rvB (imm7 : BitVec 7) (rs2 rs1 : RegIx) (funct3 : BitVec 3) (imm5 : BitVec 5) (opcode : BitVec 7) :
    slotd .rv64l (Record.rvB imm7 rs2 rs1 funct3 imm5 opcode).word = imm5 := by
  simp [slotd]

@[simp] theorem faSlot_rvB (imm7 : BitVec 7) (rs2 rs1 : RegIx) (funct3 : BitVec 3) (imm5 : BitVec 5) (opcode : BitVec 7) :
    faSlot .rv64l (Record.rvB imm7 rs2 rs1 funct3 imm5 opcode).word = rs1 := by
  simp [faSlot]

@[simp] theorem fbSlot_rvB (imm7 : BitVec 7) (rs2 rs1 : RegIx) (funct3 : BitVec 3) (imm5 : BitVec 5) (opcode : BitVec 7) :
    fbSlot .rv64l (Record.rvB imm7 rs2 rs1 funct3 imm5 opcode).word = rs2 := by
  simp [fbSlot]

@[simp] theorem fpuDst_fdSlot_rvB (imm7 : BitVec 7) (rs2 rs1 : RegIx) (funct3 : BitVec 3) (imm5 : BitVec 5) (opcode : BitVec 7) :
    fpuDst .rv64l .fdSlot (Record.rvB imm7 rs2 rs1 funct3 imm5 opcode).word = imm5 := by
  simp [fpuDst]

@[simp] theorem slotd_rvU (imm20 : BitVec 20) (rd : RegIx) (opcode : BitVec 7) :
    slotd .rv64l (Record.rvU imm20 rd opcode).word = rd := by
  simp [slotd]

@[simp] theorem fpuDst_fdSlot_rvU (imm20 : BitVec 20) (rd : RegIx) (opcode : BitVec 7) :
    fpuDst .rv64l .fdSlot (Record.rvU imm20 rd opcode).word = rd := by
  simp [fpuDst]

@[simp] theorem slotd_rvJ (imm20 : BitVec 20) (rd : RegIx) (opcode : BitVec 7) :
    slotd .rv64l (Record.rvJ imm20 rd opcode).word = rd := by
  simp [slotd]

@[simp] theorem fpuDst_fdSlot_rvJ (imm20 : BitVec 20) (rd : RegIx) (opcode : BitVec 7) :
    fpuDst .rv64l .fdSlot (Record.rvJ imm20 rd opcode).word = rd := by
  simp [fpuDst]

@[simp] theorem slot1_rvR4 (rs3 : RegIx) (funct2 : BitVec 2) (rs2 rs1 : RegIx) (funct3 : BitVec 3) (rd : RegIx) (opcode : BitVec 7) :
    slot1 .rv64l (Record.rvR4 rs3 funct2 rs2 rs1 funct3 rd opcode).word = rs1 := by
  simp [slot1]

@[simp] theorem slot2_rvR4 (rs3 : RegIx) (funct2 : BitVec 2) (rs2 rs1 : RegIx) (funct3 : BitVec 3) (rd : RegIx) (opcode : BitVec 7) :
    slot2 .rv64l (Record.rvR4 rs3 funct2 rs2 rs1 funct3 rd opcode).word = rs2 := by
  simp [slot2]

@[simp] theorem slotd_rvR4 (rs3 : RegIx) (funct2 : BitVec 2) (rs2 rs1 : RegIx) (funct3 : BitVec 3) (rd : RegIx) (opcode : BitVec 7) :
    slotd .rv64l (Record.rvR4 rs3 funct2 rs2 rs1 funct3 rd opcode).word = rd := by
  simp [slotd]

@[simp] theorem faSlot_rvR4 (rs3 : RegIx) (funct2 : BitVec 2) (rs2 rs1 : RegIx) (funct3 : BitVec 3) (rd : RegIx) (opcode : BitVec 7) :
    faSlot .rv64l (Record.rvR4 rs3 funct2 rs2 rs1 funct3 rd opcode).word = rs1 := by
  simp [faSlot]

@[simp] theorem fbSlot_rvR4 (rs3 : RegIx) (funct2 : BitVec 2) (rs2 rs1 : RegIx) (funct3 : BitVec 3) (rd : RegIx) (opcode : BitVec 7) :
    fbSlot .rv64l (Record.rvR4 rs3 funct2 rs2 rs1 funct3 rd opcode).word = rs2 := by
  simp [fbSlot]

@[simp] theorem fpuDst_fdSlot_rvR4 (rs3 : RegIx) (funct2 : BitVec 2) (rs2 rs1 : RegIx) (funct3 : BitVec 3) (rd : RegIx) (opcode : BitVec 7) :
    fpuDst .rv64l .fdSlot (Record.rvR4 rs3 funct2 rs2 rs1 funct3 rd opcode).word = rd := by
  simp [fpuDst]

end Machine

end Sys2Proof
end

