-- ==== Sys2Proof/Tests/Slice0.lean ====
section
/-! SUPPORT. Tests: the example of every instruction's rule (its word, its operands, one step), one-step tests of the corners
from spec/95_test_vectors.md, the ill-formed terms that WellFormed refuses, and for every obligation that has hypotheses a
state and operands that meet all of them together. Every expected value is the spec's. -/

namespace Sys2Proof.Machine

/-! ## Well-formedness (R140, R645) -/

theorem test_wf_refuses_rm_101 : (Instr.rvFaddS 1 2 0b101 3).wf = false := by decide
theorem test_wf_refuses_rm_110 : (Instr.rvFmaddD 1 2 3 0b110 4).wf = false := by decide
theorem test_wf_admits_dynamic : (Instr.rvFsqrtD 1 0b111 2).wf = true := by decide
theorem test_rounding_modes : ([0b000, 0b001, 0b010, 0b011, 0b100, 0b101, 0b110, 0b111].map roundingMode) =
    [some .rne, some .rtz, some .rdn, some .rup, some .rmm, none, none, some .rne] := by decide

/-! ## The example of every instruction's rule -/

/-- One observable value of the spec's examples. -/
inductive Item where
  | x (i v : Nat)
  | f (i v : Nat)
  | pc (v : Nat)
  | data (v : Nat)
  | cc (v : Bool)
  | bytes (a : Nat) (bs : List Nat)
  | halted

/-- A state with the value put in. -/
def Item.put (s : State) : Item → State
  | .x i v => s.setX (BitVec.ofNat 5 i) (BitVec.ofNat 64 v)
  | .f i v => s.setF (BitVec.ofNat 5 i) (BitVec.ofNat 64 v)
  | .pc v => { s with pc := BitVec.ofNat 64 v }
  | .data v => { s with data := BitVec.ofNat 64 v }
  | .cc v => { s with cc := v }
  | .bytes a bs => { s with mem := s.mem.writeBytes a (bs.map (BitVec.ofNat 8)) }
  | .halted => { s with run := .halted }

/-- Whether a state has the value. -/
def Item.holds (s : State) : Item → Bool
  | .x i v => s.readX (BitVec.ofNat 5 i) == BitVec.ofNat 64 v
  | .f i v => s.readF (BitVec.ofNat 5 i) == BitVec.ofNat 64 v
  | .pc v => s.pc == BitVec.ofNat 64 v
  | .data v => s.data == BitVec.ofNat 64 v
  | .cc v => s.cc == v
  | .bytes a bs => s.mem.readBytes a bs.length == bs.map (BitVec.ofNat 8)
  | .halted => decide (s.run = .halted)

/-- An example: the word, the instruction it stands for, the values set before the step and the values after it. -/
structure Example where
  word : Word32
  instr : Instr
  before : List Item
  after : List Item

/-- A state about to run a word, with some values set. -/
def stateFor (isa : Isa) (completion : FpuCompletion) (word : Word32) (before : List Item) : State :=
  let s := before.foldl Item.put { State.resetWith
    { isa := isa, memCapacity := 65536, byteOrder := .big, fpuCompletion := completion } with progEnd := 0x1000 }
  { s with mem := s.mem.writeBytes s.pc.toNat (toBytes .big 4 word.toNat) }

/-- The state after a step, and whether the step gives one. -/
def stepped (s : State) : State :=
  match step s with
  | .next t => t
  | _ => { s with progEnd := 0xdead }

/-- The word decodes to the instruction, and one step raises nothing and leaves the values the spec prints. -/
def Example.passes (isa : Isa) (e : Example) : Bool :=
  let t := stepped (stateFor isa .ieee e.word e.before)
  decide (decode isa e.word = .instr e.instr) && decide (encode e.instr = e.word) && t.fault.isNone &&
    e.after.all (Item.holds t)

/-- The examples of the rules of 41_mips_integer.md, rows 1 to 22. -/
def mipsIntegerA : List Example :=
  [⟨0x00221820, .mipsAdd 1 2 3 0, [.x 1 0x7fffffff, .x 2 1], [.x 3 0xffffffff80000000, .pc 4]⟩,
   ⟨0x00221821, .mipsAddu 1 2 3 0, [.x 1 0x1ffffffff, .x 2 2], [.x 3 1, .pc 4]⟩,
   ⟨0x00221822, .mipsSub 1 2 3 0, [.x 1 0x80000000, .x 2 1], [.x 3 0x7fffffff, .pc 4]⟩,
   ⟨0x00221823, .mipsSubu 1 2 3 0, [.x 1 0, .x 2 1], [.x 3 0xffffffffffffffff, .pc 4]⟩,
   ⟨0x00221824, .mipsAnd 1 2 3 0, [.x 1 0xff00ff00ff00ff00, .x 2 0xff00ff00ff00ff0], [.x 3 0xf000f000f000f00, .pc 4]⟩,
   ⟨0x00221825, .mipsOr 1 2 3 0, [.x 1 0xff00ff00ff00ff00, .x 2 0xff00ff00ff00ff0], [.x 3 0xfff0fff0fff0fff0, .pc 4]⟩,
   ⟨0x00221826, .mipsXor 1 2 3 0, [.x 1 0xff00ff00ff00ff00, .x 2 0xff00ff00ff00ff0], [.x 3 0xf0f0f0f0f0f0f0f0, .pc 4]⟩,
   ⟨0x00221827, .mipsNor 1 2 3 0, [.x 1 0xff00ff00ff00ff00, .x 2 0xff00ff00ff00ff0], [.x 3 0xf000f000f000f, .pc 4]⟩,
   ⟨0x0022182A, .mipsSlt 1 2 3 0, [.x 1 0xffffffffffffffff, .x 2 1], [.x 3 1, .pc 4]⟩,
   ⟨0x0022182B, .mipsSltu 1 2 3 0, [.x 1 0xffffffffffffffff, .x 2 1], [.x 3 0, .pc 4]⟩,
   ⟨0x0022182C, .mipsDadd 1 2 3 0, [.x 1 0x7fffffffffffffff, .x 2 1], [.x 3 0x8000000000000000, .pc 4]⟩,
   ⟨0x0022182D, .mipsDaddu 1 2 3 0, [.x 1 0xffffffffffffffff, .x 2 2], [.x 3 1, .pc 4]⟩,
   ⟨0x0022182E, .mipsDsub 1 2 3 0, [.x 1 0x8000000000000000, .x 2 1], [.x 3 0x7fffffffffffffff, .pc 4]⟩,
   ⟨0x0022182F, .mipsDsubu 1 2 3 0, [.x 1 0, .x 2 1], [.x 3 0xffffffffffffffff, .pc 4]⟩,
   ⟨0x00021840, .mipsSll 0 2 3 1, [.x 2 0x40000001], [.x 3 0xffffffff80000002, .pc 4]⟩,
   ⟨0x00021902, .mipsSrl 0 2 3 4, [.x 2 0xffffffff80000000], [.x 3 0x8000000, .pc 4]⟩,
   ⟨0x00021903, .mipsSra 0 2 3 4, [.x 2 0x80000000], [.x 3 0xfffffffff8000000, .pc 4]⟩,
   ⟨0x00021938, .mipsDsll 0 2 3 4, [.x 2 0x8000000000000001], [.x 3 0x10, .pc 4]⟩,
   ⟨0x0002193A, .mipsDsrl 0 2 3 4, [.x 2 0x8000000000000000], [.x 3 0x800000000000000, .pc 4]⟩,
   ⟨0x0002193B, .mipsDsra 0 2 3 4, [.x 2 0x8000000000000000], [.x 3 0xf800000000000000, .pc 4]⟩,
   ⟨0x0002183C, .mipsDsll32 0 2 3 0, [.x 2 0xdeadbeef], [.x 3 0xdeadbeef00000000, .pc 4]⟩,
   ⟨0x0002183E, .mipsDsrl32 0 2 3 0, [.x 2 0xdeadbeef00000000], [.x 3 0xdeadbeef, .pc 4]⟩]
theorem test_examples_mipsIntegerA : (mipsIntegerA.all (·.passes .mips64l)) = true := by decide

/-- The examples of the rules of 41_mips_integer.md, rows 23 to 44. -/
def mipsIntegerB : List Example :=
  [⟨0x0002183F, .mipsDsra32 0 2 3 0, [.x 2 0xdeadbeef00000000], [.x 3 0xffffffffdeadbeef, .pc 4]⟩,
   ⟨0x00221898, .mipsMul 1 2 3, [.x 1 0x10000, .x 2 0x10000], [.x 3 0, .pc 4]⟩,
   ⟨0x002218D8, .mipsMuh 1 2 3, [.x 1 0xffffffff, .x 2 0xffffffff], [.x 3 0, .pc 4]⟩,
   ⟨0x00221899, .mipsMulu 1 2 3, [.x 1 0xffffffff, .x 2 2], [.x 3 0xfffffffffffffffe, .pc 4]⟩,
   ⟨0x002218D9, .mipsMuhu 1 2 3, [.x 1 0xffffffff, .x 2 0xffffffff], [.x 3 0xfffffffffffffffe, .pc 4]⟩,
   ⟨0x0022189A, .mipsDiv 1 2 3, [.x 1 0xfffffff9, .x 2 2], [.x 3 0xfffffffffffffffd, .pc 4]⟩,
   ⟨0x002218DA, .mipsMod 1 2 3, [.x 1 0xfffffff9, .x 2 2], [.x 3 0xffffffffffffffff, .pc 4]⟩,
   ⟨0x0022189B, .mipsDivu 1 2 3, [.x 1 0xfffffff9, .x 2 2], [.x 3 0x7ffffffc, .pc 4]⟩,
   ⟨0x002218DB, .mipsModu 1 2 3, [.x 1 0xfffffff9, .x 2 0], [.x 3 0xfffffffffffffff9, .pc 4]⟩,
   ⟨0x0022189C, .mipsDmul 1 2 3, [.x 1 0x100000000, .x 2 0x100000000], [.x 3 0, .pc 4]⟩,
   ⟨0x002218DC, .mipsDmuh 1 2 3, [.x 1 0xffffffffffffffff, .x 2 0xffffffffffffffff], [.x 3 0, .pc 4]⟩,
   ⟨0x0022189D, .mipsDmulu 1 2 3, [.x 1 0xffffffffffffffff, .x 2 2], [.x 3 0xfffffffffffffffe, .pc 4]⟩,
   ⟨0x002218DD, .mipsDmuhu 1 2 3, [.x 1 0xffffffffffffffff, .x 2 0xffffffffffffffff], [.x 3 0xfffffffffffffffe, .pc 4]⟩,
   ⟨0x0022189E, .mipsDdiv 1 2 3, [.x 1 0x8000000000000000, .x 2 0xffffffffffffffff], [.x 3 0x8000000000000000, .pc 4]⟩,
   ⟨0x002218DE, .mipsDmod 1 2 3, [.x 1 0xfffffffffffffff9, .x 2 2], [.x 3 0xffffffffffffffff, .pc 4]⟩,
   ⟨0x0022189F, .mipsDdivu 1 2 3, [.x 1 0xffffffffffffffff, .x 2 2], [.x 3 0x7fffffffffffffff, .pc 4]⟩,
   ⟨0x002218DF, .mipsDmodu 1 2 3, [.x 1 0xffffffffffffffff, .x 2 0x10], [.x 3 0xf, .pc 4]⟩,
   ⟨0x20220001, .mipsAddi 1 2 1, [.x 1 0x7fffffff], [.x 2 0xffffffff80000000, .pc 4]⟩,
   ⟨0x2422FFFF, .mipsAddiu 1 2 65535, [.x 1 5], [.x 2 4, .pc 4]⟩,
   ⟨0x2822FFFE, .mipsSlti 1 2 65534, [.x 1 0xfffffffffffffffb], [.x 2 1, .pc 4]⟩,
   ⟨0x2C22FFFF, .mipsSltiu 1 2 65535, [.x 1 5], [.x 2 1, .pc 4]⟩,
   ⟨0x3022F0F0, .mipsAndi 1 2 61680, [.x 1 0xffffffffffffffff], [.x 2 0xf0f0, .pc 4]⟩]
theorem test_examples_mipsIntegerB : (mipsIntegerB.all (·.passes .mips64l)) = true := by decide

/-- The examples of the rules of 41_mips_integer.md, rows 45 to 49. -/
def mipsIntegerC : List Example :=
  [⟨0x35EB0002, .mipsOri 15 11 2, [.x 15 0x64], [.x 11 0x66, .pc 4]⟩,
   ⟨0x3822FFFF, .mipsXori 1 2 65535, [.x 1 0xffffffffffffffff], [.x 2 0xffffffffffff0000, .pc 4]⟩,
   ⟨0x3C028001, .mipsLui 0 2 32769, [], [.x 2 0xffffffff80010000, .pc 4]⟩,
   ⟨0x60220001, .mipsDaddi 1 2 1, [.x 1 0x7fffffffffffffff], [.x 2 0x8000000000000000, .pc 4]⟩,
   ⟨0x6422FFF8, .mipsDaddiu 1 2 65528, [.x 1 0x2000], [.x 2 0x1ff8, .pc 4]⟩]
theorem test_examples_mipsIntegerC : (mipsIntegerC.all (·.passes .mips64l)) = true := by decide

/-- The examples of the rules of 42_mips_memory_control.md, rows 1 to 18. -/
def mipsMemControlA : List Example :=
  [⟨0x80220004, .mipsLb 1 2 4, [.x 1 0x2000, .bytes 0x2004 [0x80, 0xff, 0x7f, 0, 0x11, 0x22, 0x33, 0x44]], [.x 2 0xffffffffffffff80, .pc 4]⟩,
   ⟨0x90220004, .mipsLbu 1 2 4, [.x 1 0x2000, .bytes 0x2004 [0x80, 0xff, 0x7f, 0, 0x11, 0x22, 0x33, 0x44]], [.x 2 0x80, .pc 4]⟩,
   ⟨0x84220004, .mipsLh 1 2 4, [.x 1 0x2000, .bytes 0x2004 [0x80, 0xff, 0x7f, 0, 0x11, 0x22, 0x33, 0x44]], [.x 2 0xffffffffffff80ff, .pc 4]⟩,
   ⟨0x94220004, .mipsLhu 1 2 4, [.x 1 0x2000, .bytes 0x2004 [0x80, 0xff, 0x7f, 0, 0x11, 0x22, 0x33, 0x44]], [.x 2 0x80ff, .pc 4]⟩,
   ⟨0x8C220004, .mipsLw 1 2 4, [.x 1 0x2000, .bytes 0x2004 [0x80, 0xff, 0x7f, 0, 0x11, 0x22, 0x33, 0x44]], [.x 2 0xffffffff80ff7f00, .pc 4]⟩,
   ⟨0x9C220004, .mipsLwu 1 2 4, [.x 1 0x2000, .bytes 0x2004 [0x80, 0xff, 0x7f, 0, 0x11, 0x22, 0x33, 0x44]], [.x 2 0x80ff7f00, .pc 4]⟩,
   ⟨0xDC220004, .mipsLd 1 2 4, [.x 1 0x2000, .bytes 0x2004 [0x80, 0xff, 0x7f, 0, 0x11, 0x22, 0x33, 0x44]], [.x 2 0x80ff7f0011223344, .pc 4]⟩,
   ⟨0xA022FFF8, .mipsSb 1 2 65528, [.x 1 0x2008, .x 2 0x1122334455667788, .bytes 0x2000 [0xff, 0xff, 0xff, 0xff, 0xff, 0xff, 0xff, 0xff]], [.bytes 0x2000 [0x88, 0xff, 0xff, 0xff, 0xff, 0xff, 0xff, 0xff], .pc 4]⟩,
   ⟨0xA422FFF8, .mipsSh 1 2 65528, [.x 1 0x2008, .x 2 0x1122334455667788, .bytes 0x2000 [0xff, 0xff, 0xff, 0xff, 0xff, 0xff, 0xff, 0xff]], [.bytes 0x2000 [0x77, 0x88, 0xff, 0xff, 0xff, 0xff, 0xff, 0xff], .pc 4]⟩,
   ⟨0xAC22FFF8, .mipsSw 1 2 65528, [.x 1 0x2008, .x 2 0x1122334455667788, .bytes 0x2000 [0xff, 0xff, 0xff, 0xff, 0xff, 0xff, 0xff, 0xff]], [.bytes 0x2000 [0x55, 0x66, 0x77, 0x88, 0xff, 0xff, 0xff, 0xff], .pc 4]⟩,
   ⟨0xFC22FFF8, .mipsSd 1 2 65528, [.x 1 0x2008, .x 2 0x1122334455667788, .bytes 0x2000 [0xff, 0xff, 0xff, 0xff, 0xff, 0xff, 0xff, 0xff]], [.bytes 0x2000 [0x11, 0x22, 0x33, 0x44, 0x55, 0x66, 0x77, 0x88], .pc 4]⟩,
   ⟨0x10220003, .mipsBeq 1 2 3, [.pc 0x100, .x 1 7, .x 2 7], [.pc 0x110]⟩,
   ⟨0x1422FFFC, .mipsBne 1 2 65532, [.pc 0x100, .x 1 7, .x 2 8], [.pc 0xf4]⟩,
   ⟨0x08000010, .mipsJ 16, [.pc 8], [.pc 0x40]⟩,
   ⟨0x0C000010, .mipsJal 16, [.pc 8], [.x 31 0xc, .pc 0x40]⟩,
   ⟨0x03E00008, .mipsJr 31 0 0 0, [.pc 0x40, .x 31 0xc], [.pc 0xc]⟩,
   ⟨0x00A0F809, .mipsJalr 5 0 31 0, [.pc 0x10, .x 5 0x80], [.x 31 0x14, .pc 0x80]⟩,
   ⟨0x0000000C, .mipsSyscall 0 0 0 0, [.pc 0x40], [.pc 0x44, .halted]⟩]
theorem test_examples_mipsMemControlA : (mipsMemControlA.all (·.passes .mips64l)) = true := by decide

/-- The examples of the rules of 43_mips_cop1.md, rows 1 to 22. -/
def mipsCop1A : List Example :=
  [⟨0xC4240008, .mipsLwc1 1 4 8, [.x 1 0x2000, .f 4 0xffffffffffffffff, .bytes 0x2008 [0x3f, 0xf8, 0, 0, 0x40, 0x49, 0xf, 0xdb]], [.f 4 0x3ff80000, .data 0x3ff80000, .pc 4]⟩,
   ⟨0xD4240008, .mipsLdc1 1 4 8, [.x 1 0x2000, .f 4 0xffffffffffffffff, .bytes 0x2008 [0x3f, 0xf8, 0, 0, 0x40, 0x49, 0xf, 0xdb]], [.f 4 0x3ff8000040490fdb, .data 0x3ff8000040490fdb, .pc 4]⟩,
   ⟨0xE4240000, .mipsSwc1 1 4 0, [.x 1 0x2000, .f 4 0x400921fb54442d18, .bytes 0x2000 [0xff, 0xff, 0xff, 0xff, 0xff, 0xff, 0xff, 0xff]], [.bytes 0x2000 [0x54, 0x44, 0x2d, 0x18, 0xff, 0xff, 0xff, 0xff], .data 0x400921fb54442d18, .pc 4]⟩,
   ⟨0xF4240000, .mipsSdc1 1 4 0, [.x 1 0x2000, .f 4 0x400921fb54442d18, .bytes 0x2000 [0xff, 0xff, 0xff, 0xff, 0xff, 0xff, 0xff, 0xff]], [.bytes 0x2000 [0x40, 9, 0x21, 0xfb, 0x54, 0x44, 0x2d, 0x18], .data 0x400921fb54442d18, .pc 4]⟩,
   ⟨0x44022000, .mipsMfc1 2 4 0 0, [.f 4 0x12345678bf800000], [.x 2 0xffffffffbf800000, .data 0x12345678bf800000, .pc 4]⟩,
   ⟨0x44222000, .mipsDmfc1 2 4 0 0, [.f 4 0xbff0000000000000], [.x 2 0xbff0000000000000, .data 0xbff0000000000000, .pc 4]⟩,
   ⟨0x44822000, .mipsMtc1 2 4 0 0, [.x 2 0xdeadbeef3f800000, .f 4 0xffffffffffffffff], [.f 4 0x3f800000, .data 0xdeadbeef3f800000, .pc 4]⟩,
   ⟨0x44A22000, .mipsDmtc1 2 4 0 0, [.x 2 0xdeadbeef3f800000, .f 4 0xffffffffffffffff], [.f 4 0xdeadbeef3f800000, .data 0xdeadbeef3f800000, .pc 4]⟩,
   ⟨0x45000005, .mipsBc1f 5, [.pc 0x20, .cc true], [.pc 0x24]⟩,
   ⟨0x45010005, .mipsBc1t 5, [.pc 0x20, .cc true], [.pc 0x38]⟩,
   ⟨0x46052180, .mipsAddS 5 4 6, [.f 4 0x3fc00000, .f 5 0x40100000], [.f 6 0x40700000, .pc 4]⟩,
   ⟨0x46252180, .mipsAddD 5 4 6, [.f 4 0x3ff8000000000000, .f 5 0x4002000000000000], [.f 6 0x400e000000000000, .pc 4]⟩,
   ⟨0x46052181, .mipsSubS 5 4 6, [.f 4 0x3fc00000, .f 5 0x40000000], [.f 6 0xbf000000, .pc 4]⟩,
   ⟨0x46252181, .mipsSubD 5 4 6, [.f 4 0x3ff8000000000000, .f 5 0x4000000000000000], [.f 6 0xbfe0000000000000, .pc 4]⟩,
   ⟨0x46052182, .mipsMulS 5 4 6, [.f 4 0x3fc00000, .f 5 0x40000000], [.f 6 0x40400000, .pc 4]⟩,
   ⟨0x46252182, .mipsMulD 5 4 6, [.f 4 0x3ff8000000000000, .f 5 0x4000000000000000], [.f 6 0x4008000000000000, .pc 4]⟩,
   ⟨0x46052183, .mipsDivS 5 4 6, [.f 4 0x3f800000, .f 5 0x40800000], [.f 6 0x3e800000, .pc 4]⟩,
   ⟨0x46252183, .mipsDivD 5 4 6, [.f 4 0x3ff0000000000000, .f 5 0x4010000000000000], [.f 6 0x3fd0000000000000, .pc 4]⟩,
   ⟨0x46002184, .mipsSqrtS 4 6, [.f 4 0x40800000], [.f 6 0x40000000, .pc 4]⟩,
   ⟨0x46202184, .mipsSqrtD 4 6, [.f 4 0x4010000000000000], [.f 6 0x4000000000000000, .pc 4]⟩,
   ⟨0x46052032, .mipsCEqS 5 4, [.f 4 0, .f 5 0x80000000], [.cc true, .pc 4]⟩,
   ⟨0x46252032, .mipsCEqD 5 4, [.f 4 0x7ff8000000000000, .f 5 0x7ff8000000000000], [.cc false, .pc 4]⟩]
theorem test_examples_mipsCop1A : (mipsCop1A.all (·.passes .mips64l)) = true := by decide +kernel

/-- The examples of the rules of 43_mips_cop1.md, rows 23 to 26. -/
def mipsCop1B : List Example :=
  [⟨0x4605203C, .mipsCLtS 5 4, [.f 4 0x3f800000, .f 5 0x40000000], [.cc true, .pc 4]⟩,
   ⟨0x4625203C, .mipsCLtD 5 4, [.f 4 0x4000000000000000, .f 5 0x3ff0000000000000], [.cc false, .pc 4]⟩,
   ⟨0x4605203E, .mipsCLeS 5 4, [.f 4 0x40000000, .f 5 0x40000000], [.cc true, .pc 4]⟩,
   ⟨0x4625203E, .mipsCLeD 5 4, [.f 4 0x3ff0000000000000, .f 5 0x7ff8000000000000], [.cc false, .pc 4]⟩]
theorem test_examples_mipsCop1B : (mipsCop1B.all (·.passes .mips64l)) = true := by decide +kernel

/-- The examples of the rules of 44_rv_integer.md, rows 1 to 22. -/
def rvIntegerA : List Example :=
  [⟨0x800012B7, .rvLui 524289 5, [], [.x 5 0xffffffff80001000, .pc 4]⟩,
   ⟨0x00001297, .rvAuipc 1 5, [.pc 0x10], [.x 5 0x1010, .pc 0x14]⟩,
   ⟨0x00130293, .rvAddi 1 6 5, [.x 6 0x7fffffffffffffff], [.x 5 0x8000000000000000, .pc 4]⟩,
   ⟨0xFFE32293, .rvSlti 4094 6 5, [.x 6 0xfffffffffffffffb], [.x 5 1, .pc 4]⟩,
   ⟨0x00133293, .rvSltiu 1 6 5, [.x 6 0], [.x 5 1, .pc 4]⟩,
   ⟨0xFFF34293, .rvXori 4095 6 5, [.x 6 0xff00ff00ff00ff], [.x 5 0xff00ff00ff00ff00, .pc 4]⟩,
   ⟨0x00236293, .rvOri 2 6 5, [.x 6 0x64], [.x 5 0x66, .pc 4]⟩,
   ⟨0xF0F37293, .rvAndi 3855 6 5, [.x 6 0x123456789abcdef0], [.x 5 0x123456789abcde00, .pc 4]⟩,
   ⟨0x03F31293, .rvSlli 63 6 5, [.x 6 0x8000000000000001], [.x 5 0x8000000000000000, .pc 4]⟩,
   ⟨0x03F35293, .rvSrli 63 6 5, [.x 6 0x8000000000000000], [.x 5 1, .pc 4]⟩,
   ⟨0x43F35293, .rvSrai 63 6 5, [.x 6 0x8000000000000000], [.x 5 0xffffffffffffffff, .pc 4]⟩,
   ⟨0x0013029B, .rvAddiw 1 6 5, [.x 6 0x17fffffff], [.x 5 0xffffffff80000000, .pc 4]⟩,
   ⟨0x0013129B, .rvSlliw 1 6 5, [.x 6 0x40000001], [.x 5 0xffffffff80000002, .pc 4]⟩,
   ⟨0x0043529B, .rvSrliw 4 6 5, [.x 6 0xffffffff80000000], [.x 5 0x8000000, .pc 4]⟩,
   ⟨0x4043529B, .rvSraiw 4 6 5, [.x 6 0x80000000], [.x 5 0xfffffffff8000000, .pc 4]⟩,
   ⟨0x007302B3, .rvAdd 7 6 5, [.x 6 0x7fffffffffffffff, .x 7 1], [.x 5 0x8000000000000000, .pc 4]⟩,
   ⟨0x407302B3, .rvSub 7 6 5, [.x 6 0, .x 7 1], [.x 5 0xffffffffffffffff, .pc 4]⟩,
   ⟨0x007312B3, .rvSll 7 6 5, [.x 6 1, .x 7 0x41], [.x 5 2, .pc 4]⟩,
   ⟨0x007322B3, .rvSlt 7 6 5, [.x 6 0xffffffffffffffff, .x 7 1], [.x 5 1, .pc 4]⟩,
   ⟨0x007332B3, .rvSltu 7 6 5, [.x 6 0xffffffffffffffff, .x 7 1], [.x 5 0, .pc 4]⟩,
   ⟨0x007342B3, .rvXor 7 6 5, [.x 6 0xff00ff00ff00ff00, .x 7 0xff00ff00ff00ff0], [.x 5 0xf0f0f0f0f0f0f0f0, .pc 4]⟩,
   ⟨0x007352B3, .rvSrl 7 6 5, [.x 6 0x8000000000000000, .x 7 0x44], [.x 5 0x800000000000000, .pc 4]⟩]
theorem test_examples_rvIntegerA : (rvIntegerA.all (·.passes .rv64l)) = true := by decide

/-- The examples of the rules of 44_rv_integer.md, rows 23 to 43. -/
def rvIntegerB : List Example :=
  [⟨0x407352B3, .rvSra 7 6 5, [.x 6 0x8000000000000000, .x 7 4], [.x 5 0xf800000000000000, .pc 4]⟩,
   ⟨0x007362B3, .rvOr 7 6 5, [.x 6 0xff00ff00ff00ff00, .x 7 0xff00ff00ff00ff0], [.x 5 0xfff0fff0fff0fff0, .pc 4]⟩,
   ⟨0x007372B3, .rvAnd 7 6 5, [.x 6 0xff00ff00ff00ff00, .x 7 0xff00ff00ff00ff0], [.x 5 0xf000f000f000f00, .pc 4]⟩,
   ⟨0x007302BB, .rvAddw 7 6 5, [.x 6 0x7fffffff, .x 7 1], [.x 5 0xffffffff80000000, .pc 4]⟩,
   ⟨0x407302BB, .rvSubw 7 6 5, [.x 6 0x80000000, .x 7 1], [.x 5 0x7fffffff, .pc 4]⟩,
   ⟨0x007312BB, .rvSllw 7 6 5, [.x 6 1, .x 7 0x3f], [.x 5 0xffffffff80000000, .pc 4]⟩,
   ⟨0x007352BB, .rvSrlw 7 6 5, [.x 6 0xffffffff80000000, .x 7 0x24], [.x 5 0x8000000, .pc 4]⟩,
   ⟨0x407352BB, .rvSraw 7 6 5, [.x 6 0x80000000, .x 7 4], [.x 5 0xfffffffff8000000, .pc 4]⟩,
   ⟨0x027302B3, .rvMul 7 6 5, [.x 6 0x100000000, .x 7 0x100000000], [.x 5 0, .pc 4]⟩,
   ⟨0x027312B3, .rvMulh 7 6 5, [.x 6 0xffffffffffffffff, .x 7 0xffffffffffffffff], [.x 5 0, .pc 4]⟩,
   ⟨0x027322B3, .rvMulhsu 7 6 5, [.x 6 0xffffffffffffffff, .x 7 0xffffffffffffffff], [.x 5 0xffffffffffffffff, .pc 4]⟩,
   ⟨0x027332B3, .rvMulhu 7 6 5, [.x 6 0xffffffffffffffff, .x 7 0xffffffffffffffff], [.x 5 0xfffffffffffffffe, .pc 4]⟩,
   ⟨0x027342B3, .rvDiv 7 6 5, [.x 6 0xfffffffffffffff9, .x 7 2], [.x 5 0xfffffffffffffffd, .pc 4]⟩,
   ⟨0x027352B3, .rvDivu 7 6 5, [.x 6 7, .x 7 0], [.x 5 0xffffffffffffffff, .pc 4]⟩,
   ⟨0x027362B3, .rvRem 7 6 5, [.x 6 0xfffffffffffffff9, .x 7 2], [.x 5 0xffffffffffffffff, .pc 4]⟩,
   ⟨0x027372B3, .rvRemu 7 6 5, [.x 6 7, .x 7 0], [.x 5 7, .pc 4]⟩,
   ⟨0x027302BB, .rvMulw 7 6 5, [.x 6 0x10000, .x 7 0x8000], [.x 5 0xffffffff80000000, .pc 4]⟩,
   ⟨0x027342BB, .rvDivw 7 6 5, [.x 6 0x80000000, .x 7 0xffffffff], [.x 5 0xffffffff80000000, .pc 4]⟩,
   ⟨0x027352BB, .rvDivuw 7 6 5, [.x 6 0xfffffffe, .x 7 1], [.x 5 0xfffffffffffffffe, .pc 4]⟩,
   ⟨0x027362BB, .rvRemw 7 6 5, [.x 6 0xfffffff9, .x 7 2], [.x 5 0xffffffffffffffff, .pc 4]⟩,
   ⟨0x027372BB, .rvRemuw 7 6 5, [.x 6 0x180000005, .x 7 0], [.x 5 0xffffffff80000005, .pc 4]⟩]
theorem test_examples_rvIntegerB : (rvIntegerB.all (·.passes .rv64l)) = true := by decide

/-- The examples of the rules of 45_rv_memory_control.md, rows 1 to 20. -/
def rvMemControlA : List Example :=
  [⟨0xFFC30283, .rvLb 4092 6 5, [.x 6 0x2004, .bytes 0x2000 [0x80, 0xff, 0x7f, 0, 0x11, 0x22, 0x33, 0x44]], [.x 5 0xffffffffffffff80, .pc 4]⟩,
   ⟨0xFFC31283, .rvLh 4092 6 5, [.x 6 0x2004, .bytes 0x2000 [0x80, 0xff, 0x7f, 0, 0x11, 0x22, 0x33, 0x44]], [.x 5 0xffffffffffff80ff, .pc 4]⟩,
   ⟨0xFFC32283, .rvLw 4092 6 5, [.x 6 0x2004, .bytes 0x2000 [0x80, 0xff, 0x7f, 0, 0x11, 0x22, 0x33, 0x44]], [.x 5 0xffffffff80ff7f00, .pc 4]⟩,
   ⟨0xFFC33283, .rvLd 4092 6 5, [.x 6 0x2004, .bytes 0x2000 [0x80, 0xff, 0x7f, 0, 0x11, 0x22, 0x33, 0x44]], [.x 5 0x80ff7f0011223344, .pc 4]⟩,
   ⟨0xFFC34283, .rvLbu 4092 6 5, [.x 6 0x2004, .bytes 0x2000 [0x80, 0xff, 0x7f, 0, 0x11, 0x22, 0x33, 0x44]], [.x 5 0x80, .pc 4]⟩,
   ⟨0xFFC35283, .rvLhu 4092 6 5, [.x 6 0x2004, .bytes 0x2000 [0x80, 0xff, 0x7f, 0, 0x11, 0x22, 0x33, 0x44]], [.x 5 0x80ff, .pc 4]⟩,
   ⟨0xFFC36283, .rvLwu 4092 6 5, [.x 6 0x2004, .bytes 0x2000 [0x80, 0xff, 0x7f, 0, 0x11, 0x22, 0x33, 0x44]], [.x 5 0x80ff7f00, .pc 4]⟩,
   ⟨0xFE730C23, .rvSb 127 7 6 24, [.x 6 0x2008, .x 7 0x1122334455667788, .bytes 0x2000 [0xff, 0xff, 0xff, 0xff, 0xff, 0xff, 0xff, 0xff]], [.bytes 0x2000 [0x88, 0xff, 0xff, 0xff, 0xff, 0xff, 0xff, 0xff], .pc 4]⟩,
   ⟨0xFE731C23, .rvSh 127 7 6 24, [.x 6 0x2008, .x 7 0x1122334455667788, .bytes 0x2000 [0xff, 0xff, 0xff, 0xff, 0xff, 0xff, 0xff, 0xff]], [.bytes 0x2000 [0x77, 0x88, 0xff, 0xff, 0xff, 0xff, 0xff, 0xff], .pc 4]⟩,
   ⟨0xFE732C23, .rvSw 127 7 6 24, [.x 6 0x2008, .x 7 0x1122334455667788, .bytes 0x2000 [0xff, 0xff, 0xff, 0xff, 0xff, 0xff, 0xff, 0xff]], [.bytes 0x2000 [0x55, 0x66, 0x77, 0x88, 0xff, 0xff, 0xff, 0xff], .pc 4]⟩,
   ⟨0xFE733C23, .rvSd 127 7 6 24, [.x 6 0x2008, .x 7 0x1122334455667788, .bytes 0x2000 [0xff, 0xff, 0xff, 0xff, 0xff, 0xff, 0xff, 0xff]], [.bytes 0x2000 [0x11, 0x22, 0x33, 0x44, 0x55, 0x66, 0x77, 0x88], .pc 4]⟩,
   ⟨0x00730863, .rvBeq 0 7 6 16, [.pc 0x100, .x 6 7, .x 7 7], [.pc 0x110]⟩,
   ⟨0x00731863, .rvBne 0 7 6 16, [.pc 0x100, .x 6 7, .x 7 7], [.pc 0x104]⟩,
   ⟨0xFE7348E3, .rvBlt 127 7 6 17, [.pc 0x100, .x 6 0xffffffffffffffff, .x 7 1], [.pc 0xf0]⟩,
   ⟨0xFE7358E3, .rvBge 127 7 6 17, [.pc 0x100, .x 6 0xffffffffffffffff, .x 7 1], [.pc 0x104]⟩,
   ⟨0xFE7368E3, .rvBltu 127 7 6 17, [.pc 0x100, .x 6 0xffffffffffffffff, .x 7 1], [.pc 0x104]⟩,
   ⟨0xFE7378E3, .rvBgeu 127 7 6 17, [.pc 0x100, .x 6 0xffffffffffffffff, .x 7 1], [.pc 0xf0]⟩,
   ⟨0x040000EF, .rvJal 16384 1, [.pc 8], [.x 1 0xc, .pc 0x48]⟩,
   ⟨0x00108067, .rvJalr 1 1 0, [.pc 0x40, .x 1 0xc], [.pc 0xc]⟩,
   ⟨0x00000073, .rvEcall 0 0, [.pc 0x40], [.pc 0x44, .halted]⟩]
theorem test_examples_rvMemControlA : (rvMemControlA.all (·.passes .rv64l)) = true := by decide

/-- The examples of the rules of 46_rv_fp.md, rows 1 to 22. -/
def rvFpA : List Example :=
  [⟨0x00832207, .rvFlw 8 6 4, [.x 6 0x2000, .f 4 0xffffffffffffffff, .bytes 0x2008 [0x3f, 0xf8, 0, 0, 0x40, 0x49, 0xf, 0xdb]], [.f 4 0x3ff80000, .data 0x3ff80000, .pc 4]⟩,
   ⟨0x00833207, .rvFld 8 6 4, [.x 6 0x2000, .f 4 0xffffffffffffffff, .bytes 0x2008 [0x3f, 0xf8, 0, 0, 0x40, 0x49, 0xf, 0xdb]], [.f 4 0x3ff8000040490fdb, .data 0x3ff8000040490fdb, .pc 4]⟩,
   ⟨0x00432027, .rvFsw 0 4 6 0, [.x 6 0x2000, .f 4 0x400921fb54442d18, .bytes 0x2000 [0xff, 0xff, 0xff, 0xff, 0xff, 0xff, 0xff, 0xff]], [.bytes 0x2000 [0x54, 0x44, 0x2d, 0x18, 0xff, 0xff, 0xff, 0xff], .data 0x400921fb54442d18, .pc 4]⟩,
   ⟨0x00433027, .rvFsd 0 4 6 0, [.x 6 0x2000, .f 4 0x400921fb54442d18, .bytes 0x2000 [0xff, 0xff, 0xff, 0xff, 0xff, 0xff, 0xff, 0xff]], [.bytes 0x2000 [0x40, 9, 0x21, 0xfb, 0x54, 0x44, 0x2d, 0x18], .data 0x400921fb54442d18, .pc 4]⟩,
   ⟨0x00523353, .rvFaddS 5 4 3 6, [.f 4 0x3f800000, .f 5 0x33800000], [.f 6 0x3f800001, .pc 4]⟩,
   ⟨0x02520353, .rvFaddD 5 4 0 6, [.f 4 0x3ff8000000000000, .f 5 0x4002000000000000], [.f 6 0x400e000000000000, .pc 4]⟩,
   ⟨0x08520353, .rvFsubS 5 4 0 6, [.f 4 0x3fc00000, .f 5 0x40000000], [.f 6 0xbf000000, .pc 4]⟩,
   ⟨0x0A522353, .rvFsubD 5 4 2 6, [.f 4 0x3ff8000000000000, .f 5 0x3ff8000000000000], [.f 6 0x8000000000000000, .pc 4]⟩,
   ⟨0x10520353, .rvFmulS 5 4 0 6, [.f 4 0x3fc00000, .f 5 0x40000000], [.f 6 0x40400000, .pc 4]⟩,
   ⟨0x12520353, .rvFmulD 5 4 0 6, [.f 4 0x3ff8000000000000, .f 5 0x4000000000000000], [.f 6 0x4008000000000000, .pc 4]⟩,
   ⟨0x18521353, .rvFdivS 5 4 1 6, [.f 4 0x3f800000, .f 5 0x40400000], [.f 6 0x3eaaaaaa, .pc 4]⟩,
   ⟨0x1A520353, .rvFdivD 5 4 0 6, [.f 4 0x3ff0000000000000, .f 5 0], [.f 6 0x7ff0000000000000, .pc 4]⟩,
   ⟨0x58020353, .rvFsqrtS 4 0 6, [.f 4 0x40000000], [.f 6 0x3fb504f3, .pc 4]⟩,
   ⟨0x5A020353, .rvFsqrtD 4 0 6, [.f 4 0xbff0000000000000], [.f 6 0x7ff8000000000000, .pc 4]⟩,
   ⟨0x20520353, .rvFsgnjS 5 4 6, [.f 4 0x3fc00000, .f 5 0x80000000], [.f 6 0xbfc00000, .pc 4]⟩,
   ⟨0x22520353, .rvFsgnjD 5 4 6, [.f 4 0x3ff8000000000000, .f 5 0x8000000000000000], [.f 6 0xbff8000000000000, .pc 4]⟩,
   ⟨0x20521353, .rvFsgnjnS 5 4 6, [.f 4 0x3fc00000, .f 5 0x3fc00000], [.f 6 0xbfc00000, .pc 4]⟩,
   ⟨0x22521353, .rvFsgnjnD 5 4 6, [.f 4 0x3ff8000000000000, .f 5 0x3ff8000000000000], [.f 6 0xbff8000000000000, .pc 4]⟩,
   ⟨0x20522353, .rvFsgnjxS 5 4 6, [.f 4 0xbfc00000, .f 5 0xbfc00000], [.f 6 0x3fc00000, .pc 4]⟩,
   ⟨0x22522353, .rvFsgnjxD 5 4 6, [.f 4 0xbff8000000000000, .f 5 0x3ff0000000000000], [.f 6 0xbff8000000000000, .pc 4]⟩,
   ⟨0x28520353, .rvFminS 5 4 6, [.f 4 0, .f 5 0x80000000], [.f 6 0x80000000, .pc 4]⟩,
   ⟨0x2A520353, .rvFminD 5 4 6, [.f 4 0x7ff8000000000000, .f 5 0x4000000000000000], [.f 6 0x4000000000000000, .pc 4]⟩]
theorem test_examples_rvFpA : (rvFpA.all (·.passes .rv64l)) = true := by decide +kernel

/-- The examples of the rules of 46_rv_fp.md, rows 23 to 44. -/
def rvFpB : List Example :=
  [⟨0x28521353, .rvFmaxS 5 4 6, [.f 4 0, .f 5 0x80000000], [.f 6 0, .pc 4]⟩,
   ⟨0x2A521353, .rvFmaxD 5 4 6, [.f 4 0x3ff0000000000000, .f 5 0x4000000000000000], [.f 6 0x4000000000000000, .pc 4]⟩,
   ⟨0xA05222D3, .rvFeqS 5 4 5, [.x 5 0x55, .f 4 0x3f800000, .f 5 0x3f800000], [.x 5 1, .cc true, .data 1, .pc 4]⟩,
   ⟨0xA25222D3, .rvFeqD 5 4 5, [.x 5 0x55, .f 4 0x7ff8000000000000, .f 5 0x7ff8000000000000], [.x 5 0, .cc false, .data 0, .pc 4]⟩,
   ⟨0xA05212D3, .rvFltS 5 4 5, [.x 5 0x55, .f 4 0xbf800000, .f 5 0x3f800000], [.x 5 1, .cc true, .data 1, .pc 4]⟩,
   ⟨0xA25212D3, .rvFltD 5 4 5, [.x 5 0x55, .f 4 0x4000000000000000, .f 5 0x3ff0000000000000], [.x 5 0, .cc false, .data 0, .pc 4]⟩,
   ⟨0xA05202D3, .rvFleS 5 4 5, [.x 5 0x55, .f 4 0x80000000, .f 5 0], [.x 5 1, .cc true, .data 1, .pc 4]⟩,
   ⟨0xA25202D3, .rvFleD 5 4 5, [.x 5 0x55, .f 4 0x4000000000000000, .f 5 0x3ff0000000000000], [.x 5 0, .cc false, .data 0, .pc 4]⟩,
   ⟨0xE00212D3, .rvFclassS 4 5, [.f 4 0xff800000], [.x 5 1, .data 1, .pc 4]⟩,
   ⟨0xE20212D3, .rvFclassD 4 5, [.f 4 0x7ff8000000000000], [.x 5 0x200, .data 0x200, .pc 4]⟩,
   ⟨0xE00202D3, .rvFmvXW 4 5, [.f 4 0x12345678bf800000], [.x 5 0xffffffffbf800000, .data 0x12345678bf800000, .pc 4]⟩,
   ⟨0xE20202D3, .rvFmvXD 4 5, [.f 4 0xbff0000000000000], [.x 5 0xbff0000000000000, .data 0xbff0000000000000, .pc 4]⟩,
   ⟨0xF0030253, .rvFmvWX 6 4, [.x 6 0xdeadbeef3f800000, .f 4 0xffffffffffffffff], [.f 4 0x3f800000, .data 0xdeadbeef3f800000, .pc 4]⟩,
   ⟨0xF2030253, .rvFmvDX 6 4, [.x 6 0xdeadbeef3f800000, .f 4 0xffffffffffffffff], [.f 4 0xdeadbeef3f800000, .data 0xdeadbeef3f800000, .pc 4]⟩,
   ⟨0x38520343, .rvFmaddS 7 5 4 0 6, [.f 4 0x3fc00000, .f 5 0x40000000, .f 7 0x3f800000], [.f 6 0x40800000, .pc 4]⟩,
   ⟨0x3A520343, .rvFmaddD 7 5 4 0 6, [.f 4 0x3ff8000000000000, .f 5 0x4000000000000000, .f 7 0x3ff0000000000000], [.f 6 0x4010000000000000, .pc 4]⟩,
   ⟨0x38520347, .rvFmsubS 7 5 4 0 6, [.f 4 0x3fc00000, .f 5 0x40000000, .f 7 0x3f800000], [.f 6 0x40000000, .pc 4]⟩,
   ⟨0x3A520347, .rvFmsubD 7 5 4 0 6, [.f 4 0x3ff8000000000000, .f 5 0x4000000000000000, .f 7 0x3ff0000000000000], [.f 6 0x4000000000000000, .pc 4]⟩,
   ⟨0x3852034B, .rvFnmsubS 7 5 4 0 6, [.f 4 0x3fc00000, .f 5 0x40000000, .f 7 0x3f800000], [.f 6 0xc0000000, .pc 4]⟩,
   ⟨0x3A52034B, .rvFnmsubD 7 5 4 0 6, [.f 4 0x3ff8000000000000, .f 5 0x4000000000000000, .f 7 0x3ff0000000000000], [.f 6 0xc000000000000000, .pc 4]⟩,
   ⟨0x3852034F, .rvFnmaddS 7 5 4 0 6, [.f 4 0x3fc00000, .f 5 0x40000000, .f 7 0x3f800000], [.f 6 0xc0800000, .pc 4]⟩,
   ⟨0x3A52034F, .rvFnmaddD 7 5 4 0 6, [.f 4 0x3ff8000000000000, .f 5 0x4000000000000000, .f 7 0x3ff0000000000000], [.f 6 0xc010000000000000, .pc 4]⟩]
theorem test_examples_rvFpB : (rvFpB.all (·.passes .rv64l)) = true := by decide +kernel
/-! ## Corners (spec/95_test_vectors.md and the rules named) -/

/-- R706: under `Report` an operation of the completion raises in Execute and changes no register. -/
def reports (isa : Isa) (word : Word32) (op : CopOp) : Bool :=
  let s := stateFor isa .report word [.f 6 7]
  let t := stepped s
  decide (t.fault = some { kind := .unimplementedFpuOp op, pc := 0, word := word, stage := .execute }) &&
    decide (t.f = s.f) && decide (t.pc = 0)

theorem test_reported_mips : (reports .mips64l 0x46052181 (.fpu .fSub) && reports .mips64l 0x46052183 (.fpu .fDiv) &&
    reports .mips64l 0x46002184 (.fpu .fSqrt) && reports .mips64l 0x4605203C (.cmp .cmpLt)) = true := by decide

theorem test_reported_rv : (reports .rv64l 0x12520353 (.fpu .fMul) && reports .rv64l 0x20522353 (.fpu .fSgnjx) &&
    reports .rv64l 0xA25212D3 (.cmp .cmpLt) && reports .rv64l 0x38520343 (.fpu .fMadd)) = true := by decide

/-- A state whose step answers a next state answers `stepped`. -/
theorem step_eq_stepped {s : State} (h : (match step s with | .next _ => true | _ => false) = true) :
    step s = .next (stepped s) := by
  unfold stepped
  split at h
  · rename_i t ht; rw [ht]
  · cases h

/-- The state after an instruction. -/
def ran (i : Instr) (s : State) : State := fromExecute (latchDecode i.record (encode i) (vectors i) s)

theorem exec_eq_ran (i : Instr) (s : State) : exec i s = .next (ran i s) := exec_eq i s

/-- R31, R236: a write of register 0 stores nothing and raises nothing (`addi x0, x0, 0`, `daddiu r0, r2, 4`). -/
theorem test_register_zero :
    ((stepped (stateFor .rv64l .ieee 0x00000013 [])).readX 0 = 0 ∧
      (stepped (stateFor .mips64l .ieee 0x64400004 [.x 2 5])).readX 0 = 0 ∧
      (stepped (stateFor .mips64l .ieee 0x64400004 [.x 2 5])).pc = 4) := by decide

/-- V47: `lw r1, -4(r0)` wraps to the top of the address space and is out of bounds. -/
theorem test_load_out_of_bounds :
    (stepped (stateFor .mips64l .ieee 0x8C01FFFC [])).fault =
      some { kind := .outOfBounds 0xFFFFFFFFFFFFFFFC 4, pc := 0, word := 0x8C01FFFC, stage := .memory } := by decide

/-- R32, R703: a stack pointer that is no multiple of 4 is refused (`addi x2, x0, 2`), and the register keeps its value. -/
theorem test_stack_pointer_invalid :
    let t := stepped (stateFor .rv64l .ieee 0x00200113 [.x 2 0x100])
    (t.fault.map ExecError.kind, t.readX 2, t.pc) = (some (.invalidValue (.x 2) 2), 0x100, 0) := by decide

/-- R32: the capacity itself is valid for the stack pointer (`lui r29, 1`), one past the last byte. -/
theorem test_stack_pointer_top :
    let t := stepped (stateFor .mips64l .ieee 0x3C1D0001 [])
    (t.fault, t.readX 29) = (none, 0x10000) := by decide

/-- R702: an unknown primary opcode, in either set. -/
theorem test_unsupported_opcode :
    ((stepped (stateFor .mips64l .ieee 0x48000000 [])).fault.map ExecError.kind,
      (stepped (stateFor .rv64l .ieee 0x00000000 [])).fault.map ExecError.kind) =
      (some (.unsupportedOpcode 18), some (.unsupportedOpcode 0)) := by decide

/-- R125: a known primary opcode with unknown secondary fields only advances the pc. -/
theorem test_inert_word :
    let s := stateFor .mips64l .ieee 0x00000005 [.x 3 9]
    let t := stepped s
    (t.fault, t.pc, t.x, t.mem) = (none, 4, s.x, s.mem) := by decide

/-- S1: `ori r11, r15, 2` with `r15 = 100`. -/
theorem test_source_scenario_ori :
    let t := stepped (stateFor .mips64l .report 0x35EB0002 [.x 15 100])
    (t.readX 11, t.pc) = (102, 4) := by decide

/-- The state after some ticks from the Decode of a word. -/
def ticked : Nat → State → State
  | 0, s => s
  | n + 1, s =>
    match tick s with
    | .next t => ticked n t
    | _ => s

/-- T1: `ori r11, r15, 2` tick by tick. -/
theorem test_ticks_T1 :
    let s := stateFor .mips64l .ieee 0x35EB0002 [.x 15 0x64]
    let d := ticked 1 s; let e := ticked 2 s; let m := ticked 3 s; let w := ticked 4 s
    (d.stage, d.lat.ir, d.lat.instr) = (.execute, 0x35EB0002, some (.mipsI 0b001101 15 11 2)) ∧
    (d.lat.rs1Val, d.lat.rs2Val, d.lat.gpFwd) = (0x64, 0, 0) ∧
    (e.stage, e.lat.imm, e.lat.op1, e.lat.op2) = (.memory, 2, 0x64, 2) ∧
    (e.lat.aluResult, e.lat.zero, e.lat.branchTarget, e.lat.taken) = (0x66, false, 0xC, false) ∧
    (m.stage, m.lat.memAddr, m.lat.memData, m.x) = (.writeback, 0x66, 0, s.x) ∧
    (w.stage, w.lat.wbIndex, w.lat.wbData, w.readX 11, w.pc) = (.decode, 11, 0x66, 0x66, 4) := by decide

/-- T2: `lw x6, -4(x5)` tick by tick. -/
theorem test_ticks_T2 :
    let s := stateFor .rv64l .ieee 0xFFC2A303 [.x 5 0x104, .bytes 0x100 [0xFF, 0xFF, 0xFF, 0xFD]]
    let d := ticked 1 s; let e := ticked 2 s; let m := ticked 3 s; let w := ticked 4 s
    (d.stage, d.lat.rs1Val, d.lat.rs2Val, d.lat.gpFwd) = (.execute, 0x104, 0, 0x104) ∧
    (e.stage, e.lat.imm, e.lat.op1, e.lat.op2, e.lat.aluResult, e.lat.branchTarget) =
      (.memory, 0xFFFFFFFFFFFFFFFC, 0x104, 0xFFFFFFFFFFFFFFFC, 0x100, 0xFFFFFFFFFFFFFFFC) ∧
    (m.stage, m.lat.memAddr, m.lat.memData) = (.writeback, 0x100, 0xFFFFFFFFFFFFFFFD) ∧
    (w.stage, w.lat.wbIndex, w.readX 6, w.pc) = (.decode, 6, 0xFFFFFFFFFFFFFFFD, 4) := by decide

/-- What a port write leaves at a register, or why it was refused. -/
def portResult (r : Except PortError State) (i : RegIx) : Except PortError Word := r.map (·.readX i)

/-- H1, H4, H5: the register port of a machine with `ori r11, r15, 2` loaded. -/
theorem test_register_port :
    let s := (load State.reset [0x35EB0002] 0).toOption.getD State.reset
    portResult (writeRegister s (.x 0) 0) 0 = .error (.error (.immutableRegister (.x 0))) ∧
    portResult (writeRegister s (.x 29) 0x10000) 29 = .ok 0x10000 ∧
    portResult (writeRegister s (.x 29) 0x10004) 29 = .error (.error (.invalidValue (.x 29) 0x10004)) ∧
    (writeRegister s .pc 4).map State.pc = .ok 4 ∧
    (writeRegister s .pc 8).map State.pc = .error (.error (.invalidValue .pc 8)) := by decide

/-- H7, H8, H9: the memory and floating-point ports, and writes in flight, which answer an error. -/
theorem test_other_ports :
    let s := stateFor .mips64l .ieee 0x35EB0002 []
    let t := ticked 1 s
    readMemory s .word 0xFFFC = .ok 0 ∧ readMemory s .word 0xFFFD = .error (.error (.outOfBounds 0xFFFD 4)) ∧
    (writeMemory s .byte 0x10000 1).map State.mem = .error (.error (.outOfBounds 0x10000 1)) ∧
    readMemory s .word 0 = .ok 0x35EB0002 ∧ readMemory s .byte 0 = .ok 0x35 ∧
    (writeFloatPort s 1 0xFFFFFFFF3F800000).map (·.readF 1) = .ok 0xFFFFFFFF3F800000 ∧
    (writeRegister t (.x 15) 7).toOption = none ∧ (writeMemory t .word 0x100 1).toOption = none ∧
    readRegister t (.x 15) = 0 ∧ portResult (writeRegister (ticked 4 s) (.x 15) 7) 15 = .ok 7 := by decide

/-- E1: a step from reset with no load halts at pc 0. -/
theorem test_reset_halts : stepped State.reset = { State.reset with run := .halted } := by decide

/-- R12: the byte order of a stored word. -/
theorem test_byte_orders :
    (toBytes .big 4 0x11223344, toBytes .little 4 0x11223344) =
      ([0x11#8, 0x22#8, 0x33#8, 0x44#8], [0x44#8, 0x33#8, 0x22#8, 0x11#8]) := by decide

/-- R650, R644: `1 + 2^-24` is a tie in each mode; `MAXFIN + MAXFIN` overflows by mode. -/
theorem test_fp_rounding :
    ([Round.rne, .rtz, .rdn, .rup, .rmm].map fun m => fpAdd .word m 0x3F800000 0x33800000) =
        [0x3F800000, 0x3F800000, 0x3F800000, 0x3F800001, 0x3F800001] ∧
      ([Round.rne, .rtz, .rdn, .rup, .rmm].map fun m => fpAdd .word m 0x7F7FFFFF 0x7F7FFFFF) =
        [0x7F800000, 0x7F7FFFFF, 0x7F7FFFFF, 0x7F800000, 0x7F800000] := by decide

/-- The two definitions the host asks with, on a word of each set: the step runs exactly the word's instruction. -/
theorem test_table_word :
    decodeTableWord 32 0x00221820 = some (.mipsAdd 1 2 3 0) ∧ decodeTableWord 32 0x007302B3 = some (.rvAdd 7 6 5) ∧
      stepped (State.reset.withFetchWord 32 0x00221820) =
        ran (.mipsAdd 1 2 3 0) (State.reset.withFetchWord 32 0x00221820) ∧
      stepped (State.reset.withFetchWord 32 0x007302B3) = ran (.rvAdd 7 6 5) (State.reset.withFetchWord 32 0x007302B3) := by
  decide

/-! ## Witnesses: for each obligation with hypotheses, a state and operands that meet all of them -/

/-- A running state with the pc at 4 or elsewhere, the program end at 8, `x[1] = 65528`, `x[2] = 65536` (the capacity),
`x[3] = 65540`, `x[5] = 1`, and the values 65536 and 65540 stored at 65528 and 65520 as doublewords and at 256 and 260 as
words. -/
def sample (isa : Isa) (completion : FpuCompletion) (pc : Word) : State :=
  [Item.x 1 65528, .x 2 65536, .x 3 65540, .x 5 1, .f 2 65536, .f 3 65540, .f 4 0x3F800000, .f 5 0x40000000,
    .bytes 65528 [0, 0, 0, 0, 0, 1, 0, 0], .bytes 65520 [0, 0, 0, 0, 0, 1, 0, 4],
    .bytes 256 [0, 1, 0, 0, 0, 1, 0, 4]].foldl Item.put
    { State.resetWith { isa := isa, memCapacity := 65536, byteOrder := .big, fpuCompletion := completion } with
      pc := pc, progEnd := 8 }

/-- The three clauses of `WritesFrom` at boundary values: a writable value and a valid next pc, a value the stack pointer
refuses, and a writable value with an invalid next pc. -/
abbrev WritesClauses (rd : RegIx) (s : State) (v next : Word) (s' : State) (v' : Word) (s'' : State) (v'' next'' : Word) : Prop :=
  (s.xWritable rd v ∧ s.pcValid next) ∧ ¬ s'.xWritable rd v' ∧ (s''.xWritable rd v'' ∧ ¬ s''.pcValid next'')

/-- The clauses for an instruction that advances the pc by 4: at 4 the next pc is the end of the program, at 8 beyond it. -/
abbrev ComputesClauses (isa : Isa) (rd : RegIx) (value : State → Word) (bad : State → Word) : Prop :=
  let s := sample isa .ieee 4
  let e := sample isa .ieee 8
  s.cfg.isa = isa ∧ WritesClauses rd s (value s) (s.pc + 4) s (bad s) e (value e) (e.pc + 4)

/-- The two clauses of `GoesTo` at the end of the program and one word beyond it. -/
abbrev GoesClauses (isa : Isa) (s e : State) (next next' : Word) : Prop :=
  s.cfg.isa = isa ∧ e.cfg.isa = isa ∧ s.pcValid next ∧ ¬ e.pcValid next'

theorem witness_MipsDecodeOfEncode : (Instr.mipsLw 31 0 0x8000).isa = .mips64l ∧ (Instr.mipsLw 31 0 0x8000).wf = true := by
  decide
theorem witness_RvDecodeOfEncode : (Instr.rvFaddS 31 0 7 1).isa = .rv64l ∧ (Instr.rvFaddS 31 0 7 1).wf = true := by decide
theorem witness_EncodeOfDecode : decode .rv64l 0x007302B3 = .instr (.rvAdd 7 6 5) := by decide
theorem witness_RecordHoldsEveryBit : decodeRecord .mips64l 0x0C000010 = some (.mipsJ 3 0x10) := by decide

/-- A state about to run `daddiu r2, r1, 8` or `addi x2, x1, 8`. -/
def running (isa : Isa) : State :=
  let word : Word32 := match isa with | .mips64l => 0x64220008 | .rv64l => 0x00808113
  stateFor isa .ieee word [.x 1 0x100]

theorem witness_StepRunsDecoded : let s := running .mips64l
    s.ready ∧ s.pc ≠ s.progEnd ∧ fetchWord s = some 0x64220008 ∧
      decode s.cfg.isa 0x64220008 = .instr (.mipsDaddiu 1 2 8) := by decide
theorem witness_DecodeTickLatches_mips : let s := running .mips64l
    s.ready ∧ s.pc ≠ s.progEnd ∧ fetchWord s = some 0x64220008 ∧ (∃ i, decode s.cfg.isa 0x64220008 = .instr i ∧
      Record.mipsI 0b011001 1 2 8 = i.record ∧ vectors (.mipsDaddiu 1 2 8) = vectors i) ∧ s.cfg.isa = .mips64l :=
  ⟨by decide, by decide, by decide, ⟨_, by decide, rfl, rfl⟩, rfl⟩
theorem witness_DecodeTickLatches_rv : let s := running .rv64l
    s.ready ∧ s.pc ≠ s.progEnd ∧ fetchWord s = some 0x00808113 ∧ (∃ i, decode s.cfg.isa 0x00808113 = .instr i ∧
      Record.rvI 8 1 0 2 0b0010011 = i.record ∧ vectors (.rvAddi 8 1 2) = vectors i) ∧ s.cfg.isa = .rv64l :=
  ⟨by decide, by decide, by decide, ⟨_, by decide, rfl, rfl⟩, rfl⟩
theorem witness_DecodeTickLatches_inert : let s := stateFor .rv64l .ieee 0x00003073 []
    s.ready ∧ s.pc ≠ s.progEnd ∧ fetchWord s = some 0x00003073 ∧
      decode s.cfg.isa 0x00003073 = .inert (.rvI 0 0 3 0 0b1110011) ∧ s.cfg.isa = .rv64l := by decide

/-- R706: the two errors of Execute, and words that raise neither, in an instance that reports and one that completes. -/
theorem witness_ExecuteTick :
    let op := ticked 1 (stateFor .mips64l .report 0x46052181 [])
    let cmp := ticked 1 (stateFor .mips64l .report 0x4605203C [])
    let add := ticked 1 (stateFor .rv64l .report 0x00520353 [])
    let sub := ticked 1 (stateFor .mips64l .ieee 0x46052181 [])
    (op.cfg.wf ∧ ¬ op.stopped ∧ op.stage = .execute ∧ op.cfg.fpuCompletion = .report ∧
      op.lat.fs.fpuOp ∉ [FpuOp.fpuNone, FpuOp.fAdd]) ∧
    (cmp.cfg.wf ∧ ¬ cmp.stopped ∧ cmp.stage = .execute ∧ cmp.cfg.fpuCompletion = .report ∧
      ¬ cmp.lat.fs.fpuOp ∉ [FpuOp.fpuNone, FpuOp.fAdd] ∧ cmp.lat.fs.cmpOp ∉ [CmpOp.cmpNone, CmpOp.cmpEq]) ∧
    (add.cfg.wf ∧ ¬ add.stopped ∧ add.stage = .execute ∧ add.cfg.fpuCompletion = .report ∧
      ¬ add.lat.fs.fpuOp ∉ [FpuOp.fpuNone, FpuOp.fAdd] ∧ ¬ add.lat.fs.cmpOp ∉ [CmpOp.cmpNone, CmpOp.cmpEq]) ∧
    (sub.cfg.wf ∧ ¬ sub.stopped ∧ sub.stage = .execute ∧ sub.cfg.fpuCompletion ≠ .report) := by decide

/-- A state at Memory, with the address at, or one byte over, the highest one for eight bytes: `ld` and `sd` of either. -/
theorem witness_MemoryTick :
    let at' (word : Word32) := ticked 2 (stateFor .mips64l .ieee word [.x 1 65528])
    let good (s : State) : Prop := s.cfg.wf ∧ ¬ s.stopped ∧ s.stage = .memory
    let load := at' 0xDC220000; let load' := at' 0xDC220001; let store := at' 0xFC220000; let store' := at' 0xFC220001
    (good load' ∧ load'.lat.cs.memRead = .d ∧ ¬ load'.inRange (load'.lat.op1 + load'.lat.imm) 8) ∧
    (good store' ∧ store'.lat.cs.memRead = .noRead ∧ store'.lat.cs.memWrite = .d ∧
      ¬ store'.inRange (store'.lat.op1 + store'.lat.imm) 8) ∧
    (good load ∧ load.lat.cs.memRead = .d ∧ load.inRange (load.lat.op1 + load.lat.imm) 8 ∧ load.lat.cs.memWrite = .noWrite) ∧
    (good store ∧ store.lat.cs.memRead = .noRead ∧ store.lat.cs.memWrite = .d ∧
      store.inRange (store.lat.op1 + store.lat.imm) 8) := by decide

/-- A state at Writeback: a stack pointer that refuses 2, a jump to 2, and the same with valid values, with and without a
general register write. -/
theorem witness_WritebackTick :
    let at' (word : Word32) := ticked 3 (stateFor .rv64l .ieee word [])
    let good (s : State) : Prop := s.cfg.wf ∧ ¬ s.stopped ∧ s.stage = .writeback
    let sp := at' 0x00200113; let jump := at' 0x002000E7; let link := at' 0x004000E7; let store := at' 0x00003023
    (good sp ∧ sp.lat.cs.regWrite = true ∧ wbIndexNow sp = 2 ∧ ¬ sp.xWritable 2 (wbDataNow sp)) ∧
    (good jump ∧ jump.lat.cs.regWrite = true ∧ wbIndexNow jump = 1 ∧ jump.xWritable 1 (wbDataNow jump) ∧
      nextPc jump = 2 ∧ ¬ jump.pcValid 2) ∧
    (good link ∧ link.lat.cs.regWrite = true ∧ wbIndexNow link = 1 ∧ link.xWritable 1 (wbDataNow link) ∧
      nextPc link = 4 ∧ link.pcValid 4) ∧
    (good store ∧ store.lat.cs.regWrite = false ∧ nextPc store = 4 ∧ store.pcValid 4) := by decide

theorem witness_PrimaryOpcodeTables :
    let m (w : Word32) := w.extractLsb' 26 6
    let r (w : Word32) := w.extractLsb' 0 7
    m 0x00221820 = 0b000000 ∧ (m 0x45000001 = 0b010001 ∧ (0x45000001 : Word32).extractLsb' 21 5 = 0b01000) ∧
    (m 0x46052180 = 0b010001 ∧ (0x46052180 : Word32).extractLsb' 21 5 ≠ 0b01000) ∧ m 0x08000010 = 0b000010 ∧
    m 0xFC220000 = 0b111111 ∧ m 0x48000000 = 0b010010 ∧
    r 0x00808113 = 0b0010011 ∧ r 0x00001137 = 0b0110111 ∧ r 0xFE730C23 = 0b0100011 ∧ r 0x007302B3 = 0b0110011 ∧
    r 0x38520343 = 0b1000011 ∧ r 0x00000063 = 0b1100011 ∧ r 0x0000006F = 0b1101111 ∧ r 0x0000007F = 0b1111111 := by decide
theorem witness_InertWordOnlyAdvances : let s := stateFor .mips64l .ieee 0x00000005 []
    s.ready ∧ s.pc ≠ s.progEnd ∧ fetchWord s = some 0x00000005 ∧
      decode s.cfg.isa 0x00000005 = .inert (.mipsR 0 0 0 0 0 5) ∧ s.pcValid (s.pc + 4) := by decide
theorem witness_UnsupportedOpcodeRaised : let s := stateFor .rv64l .ieee 0x0000007F []
    s.ready ∧ s.pc ≠ s.progEnd ∧ fetchWord s = some 0x0000007F ∧
      decode s.cfg.isa 0x0000007F = .unsupported 0x7F := by decide

/-- A state with an error recorded: `lw r1, -4(r0)` has run. -/
def faulted : State := stepped (stateFor .mips64l .ieee 0x8C01FFFC [])

theorem witness_StoppedChangesNothing_error : faulted.cfg.wf ∧
    faulted.fault = some { kind := .outOfBounds 0xFFFFFFFFFFFFFFFC 4, pc := 0, word := 0x8C01FFFC, stage := .memory } := by
  decide
theorem witness_StoppedChangesNothing_halted : let s := stepped (stateFor .mips64l .ieee 0x0000000C [])
    s.cfg.wf ∧ s.run = .halted ∧ s.fault = none := by decide
theorem witness_UnloadedMachineHalts : Config.wf { Config.default with memCapacity := 8 } ∧
    Config.wf { Config.default with memCapacity := 2 ^ 64 - 8, isa := .rv64l } := by decide
theorem witness_StepIsFourTicks : (running .rv64l).cfg.wf ∧ (running .rv64l).stage = .decode := by decide
theorem witness_StepKeepsInvariant : (running .rv64l).Inv ∧ (running .mips64l).Inv ∧ faulted.Inv ∧
    (sample .rv64l .ieee 8).Inv := by decide
theorem witness_ResetHasInvariant : Config.wf { Config.default with memCapacity := 8, isa := .rv64l } := by decide
theorem witness_ErrorIsPrecise : let s := stateFor .mips64l .ieee 0x8C01FFFC []
    s.Inv ∧ s.ready ∧ step s = .next faulted ∧
    faulted.fault = some { kind := .outOfBounds 0xFFFFFFFFFFFFFFFC 4, pc := 0, word := 0x8C01FFFC, stage := .memory } :=
  ⟨by decide, by decide, step_eq_stepped (by decide), by decide⟩
theorem witness_HaltConditions_end : let s := sample .mips64l .ieee 8
    s.ready ∧ s.pc = s.progEnd ∧ step s = .next (stepped s) ∧ (stepped s).run = .halted :=
  ⟨by decide, by decide, step_eq_stepped (by decide), by decide⟩
theorem witness_HaltConditions_ecall : let s := stateFor .rv64l .ieee 0x00000073 []; let i := Instr.rvEcall 0 0
    s.ready ∧ s.pcOk ∧ s.pc ≠ s.progEnd ∧ fetchWord s = some 0x00000073 ∧ decode s.cfg.isa 0x00000073 = .instr i ∧
      isHalting i = true ∧ step s = .next (stepped s) ∧ (stepped s).run = .halted :=
  ⟨by decide, by decide, by decide, by decide, by decide, rfl, step_eq_stepped (by decide), by decide⟩
theorem witness_HaltConditions_syscall : let s := { stateFor .mips64l .report 0x0000000C [] with progEnd := 4 }
    s.ready ∧ s.pcOk ∧ s.pc ≠ s.progEnd ∧ fetchWord s = some 0x0000000C ∧ (∃ i, decode s.cfg.isa 0x0000000C = .instr i ∧
      isHalting i = true) := ⟨by decide, by decide, by decide, by decide, _, rfl, rfl⟩
theorem witness_WritersOfCcAndMemory_cc : let s := { sample .mips64l .ieee 4 with cc := true }
    isComparison (.mipsBc1t 1) = false ∧ exec (.mipsBc1t 1) s = .next (ran (.mipsBc1t 1) s) :=
  ⟨by decide, exec_eq_ran _ _⟩
theorem witness_WritersOfCcAndMemory_memory : let s := sample .rv64l .ieee 4
    isStore (.rvLd 0 1 2) = false ∧ exec (.rvLd 0 1 2) s = .next (ran (.rvLd 0 1 2) s) := ⟨by decide, exec_eq_ran _ _⟩
theorem witness_AluDivide_double : (0 : Word) = 0 ∧
    ((0x8000000000000000 : Word).toInt = -2 ^ 63 ∧ (0xFFFFFFFFFFFFFFFF : Word).toInt = -1) ∧
    ((0xFFFFFFFFFFFFFFFF : Word) ≠ 0 ∧
      ¬ ((0x8000000000000001 : Word).toInt = -2 ^ 63 ∧ (0xFFFFFFFFFFFFFFFF : Word).toInt = -1)) := by decide
theorem witness_AluDivide_word : (0xFFFFFFFF00000000 : Word).setWidth 32 = 0 ∧
    (((0x80000000 : Word).setWidth 32).toInt = -2 ^ 31 ∧ ((0xFFFFFFFF : Word).setWidth 32).toInt = -1) ∧
    ((0xFFFFFFFF : Word).setWidth 32 ≠ 0 ∧
      ¬ (((0x80000001 : Word).setWidth 32).toInt = -2 ^ 31 ∧ ((0xFFFFFFFF : Word).setWidth 32).toInt = -1)) := by decide
theorem witness_AluWordInputs : (0x1FFFFFFFF : Word).setWidth 32 = (0xFFFFFFFF : Word).setWidth 32 ∧
    (0x500000000 : Word).setWidth 32 = (0 : Word).setWidth 32 ∧
    AluOp.sra32 31 ∈ [AluOp.sll32 31, AluOp.srl32 31, AluOp.sra32 31, AluOp.add32] := by decide
theorem witness_MemReadAndWriteBytes_double : let s := sample .mips64l .ieee 4
    8 ∈ [1, 2, 4, 8] ∧ s.inRange 65528 8 ∧ ¬ s.inRange 65529 8 := by decide
theorem witness_MemReadAndWriteBytes_byte : let s := sample .rv64l .ieee 4
    1 ∈ [1, 2, 4, 8] ∧ s.inRange 65535 1 ∧ ¬ s.inRange 65536 1 ∧ ¬ s.inRange 0xFFFFFFFFFFFFFFFF 1 := by decide
theorem witness_RegisterPortWrite : let s := sample .mips64l .ieee 4
    s.stage = .decode ∧ ¬ s.spValid 65540 ∧ ((29 : RegIx) ≠ 0 ∧ s.spValid 65536) ∧ s.pcValid 8 ∧ ¬ s.pcValid 12 ∧
      ({ s with stage := .memory } : State).stage ≠ .decode := by decide
theorem witness_LoadPlacesProgram : let s := State.resetWith { Config.default with memCapacity := 8 }
    s.cfg.wf ∧ s.cfg.memCapacity < 4 * [0, 0, (0 : Word32)].length ∧
    (4 * [0, (1 : Word32)].length ≤ s.cfg.memCapacity ∧ 4 * [0, (1 : Word32)].length < (12 : Word).toNat) ∧
    (4 * [0, (1 : Word32)].length ≤ s.cfg.memCapacity ∧ (8 : Word).toNat % 4 = 0 ∧
      (8 : Word).toNat ≤ 4 * [0, (1 : Word32)].length ∧ 1 < [0, (1 : Word32)].length) := by decide
theorem witness_HostPorts : let s := sample .rv64l .ieee 4
    s.stage = .decode ∧ s.inRange 65535 1 ∧ ¬ s.inRange 65536 1 ∧ s.inRange 65534 2 ∧ ¬ s.inRange 65535 2 ∧
    s.inRange 65532 4 ∧ ¬ s.inRange 65533 4 ∧ (31 : RegIx) ≠ 0 := by decide

/-! ### Instruction groups: each clause of each statement, with one of the group's instructions -/

theorem witness_MipsArithmetic : ComputesClauses .mips64l 29 (fun s => sext32 (s.readX 2 + s.readX 0)) (fun s => sext32 (s.readX 3 - s.readX 0)) := by decide
theorem witness_MipsDivision : ComputesClauses .mips64l 29 (fun s => if s.readX 5 = 0 then BitVec.allOnes 64 else (s.readX 2).sdiv (s.readX 5)) (fun s => if s.readX 0 = 0 then BitVec.allOnes 64 else (s.readX 2).sdiv (s.readX 0)) := by decide
theorem witness_MipsLogicAndCompare : ComputesClauses .mips64l 29 (fun s => s.readX 2 ||| s.readX 0) (fun s => ~~~(s.readX 0 ||| s.readX 0)) := by decide
theorem witness_MipsShifts : ComputesClauses .mips64l 29 (fun s => s.readX 5 <<< (0 + 16)) (fun s => s.readX 5 <<< (31 + 32)) := by decide
theorem witness_MipsImmediates : ComputesClauses .mips64l 29 (fun s => s.readX 1 + (8 : BitVec 16).signExtend 64) (fun s => s.readX 0 + (0xFFFF : BitVec 16).signExtend 64) := by decide
theorem witness_RvImmediates : ComputesClauses .rv64l 2 (fun s => s.readX 1 + (8 : BitVec 12).signExtend 64) (fun s => s.readX 0 + (0xFFF : BitVec 12).signExtend 64) := by decide
theorem witness_RvRegisterOperations_shift : ComputesClauses .rv64l 2 (fun s => s.readX 5 <<< 16) (fun s => s.readX 5 <<< ((s.readX 0 - 1).toNat % 64)) := by decide
theorem witness_RvRegisterOperations : ComputesClauses .rv64l 2 (fun s => s.readX 2 - s.readX 0) (fun s => s.readX 3 ^^^ s.readX 0) := by decide
theorem witness_RvMultiplyDivide : ComputesClauses .rv64l 2 (fun s => s.readX 2 * s.readX 5) (fun s => if s.readX 0 = 0 then BitVec.allOnes 64 else s.readX 2 / s.readX 0) := by decide
theorem witness_MipsLoadsAndStores_load : let s := sample .mips64l .ieee 4; let e := sample .mips64l .ieee 8
    let a := s.readX 1 + (0 : BitVec 16).signExtend 64; let low := s.readX 1 + (-8 : BitVec 16).signExtend 64
    s.cfg.isa = .mips64l ∧ e.cfg.isa = .mips64l ∧ s.inRange a 8 ∧ s.inRange low 8 ∧
    WritesClauses 29 s ((loadedBits s a 8).setWidth 64) (s.pc + 4) s ((loadedBits s low 8).setWidth 64)
      e ((loadedBits e a 8).setWidth 64) (e.pc + 4) ∧
    ¬ s.inRange (s.readX 1 + (1 : BitVec 16).signExtend 64) 8 ∧
    ¬ s.inRange (s.readX 0 + (-1 : BitVec 16).signExtend 64) 1 := by decide
theorem witness_RvLoadsAndStores_load : let s := sample .rv64l .ieee 4; let e := sample .rv64l .ieee 8
    let a := s.readX 1 + (0 : BitVec 12).signExtend 64; let low := s.readX 1 + (-8 : BitVec 12).signExtend 64
    s.cfg.isa = .rv64l ∧ e.cfg.isa = .rv64l ∧ s.inRange a 8 ∧ s.inRange low 8 ∧
    WritesClauses 2 s ((loadedBits s a 8).setWidth 64) (s.pc + 4) s ((loadedBits s low 8).setWidth 64)
      e ((loadedBits e a 8).setWidth 64) (e.pc + 4) ∧
    ¬ s.inRange (s.readX 1 + (1 : BitVec 12).signExtend 64) 8 ∧
    ¬ s.inRange (s.readX 0 + (-1 : BitVec 12).signExtend 64) 1 := by decide
theorem witness_MipsLoadsAndStores_store : let s := sample .mips64l .ieee 4
    s.cfg.isa = .mips64l ∧ s.inRange (s.readX 1 + (0 : BitVec 16).signExtend 64) 8 ∧ s.pcValid (s.pc + 4) ∧
    ¬ s.inRange (s.readX 1 + (1 : BitVec 16).signExtend 64) 8 := by decide
theorem witness_RvLoadsAndStores_store : let s := sample .rv64l .ieee 4
    s.cfg.isa = .rv64l ∧ s.inRange (s.readX 1 + ((0 : BitVec 7) ++ (0 : BitVec 5)).signExtend 64) 8 ∧ s.pcValid (s.pc + 4) ∧
    ¬ s.inRange (s.readX 1 + ((0 : BitVec 7) ++ (1 : BitVec 5)).signExtend 64) 8 := by decide
theorem witness_MipsBranchesAndJumps :
    let s := sample .mips64l .ieee 4; let t := { s with cc := true }
    -- beq and bne taken to the end of the program and one word beyond it, bc1t not taken and taken, j within and beyond
    GoesClauses .mips64l s s (s.pc + 4 + (0 : BitVec 16).signExtend 64 * 4) (s.pc + 4 + (1 : BitVec 16).signExtend 64 * 4) ∧
    GoesClauses .mips64l s t (if s.cc then s.pc + 4 + (1 : BitVec 16).signExtend 64 * 4 else s.pc + 4)
      (if t.cc then t.pc + 4 + (1 : BitVec 16).signExtend 64 * 4 else t.pc + 4) ∧
    GoesClauses .mips64l s s ((s.pc + 4).extractLsb' 28 36 ++ (2 : BitVec 26) ++ 0#2)
      ((s.pc + 4).extractLsb' 28 36 ++ (3 : BitVec 26) ++ 0#2) ∧
    -- jalr into register 29: a link that is valid, one beyond the capacity, and a target that is no valid pc
    WritesClauses 29 s (s.pc + 4) (s.readX 0) { s with pc := 65536 } (65536 + 4) s (s.pc + 4) (s.readX 5) := by
  decide
theorem witness_RvBranchesAndJumps_branch :
    let s := sample .rv64l .ieee 4
    let target (a b : Nat) : Word := s.pc + ((BitVec.ofNat 7 a).extractLsb' 6 1 ++ (BitVec.ofNat 5 b).extractLsb' 0 1 ++
      (BitVec.ofNat 7 a).extractLsb' 0 6 ++ (BitVec.ofNat 5 b).extractLsb' 1 4 ++ 0#1).signExtend 64
    GoesClauses .rv64l s s (target 0 4) (target 0 2) ∧ GoesClauses .rv64l s s (target 0x7F 0x1D) (target 0 8) := by
  decide
theorem witness_RvBranchesAndJumps_jump :
    let s := sample .rv64l .ieee 4
    s.cfg.isa = .rv64l ∧ ({ s with pc := 65536 } : State).cfg.isa = .rv64l ∧
    WritesClauses 2 s (s.pc + 4) ((s.readX 5 + (0 : BitVec 12).signExtend 64) &&& ~~~1#64) { s with pc := 65536 } (65536 + 4)
      s (s.pc + 4) ((s.readX 5 + (2 : BitVec 12).signExtend 64) &&& ~~~1#64) := by decide
theorem witness_MipsCop1MemoryAndMoves_memory : let s := sample .mips64l .ieee 4; let e := sample .mips64l .ieee 8
    GoesClauses .mips64l s e (s.pc + 4) (e.pc + 4) ∧
    (s.inRange (s.readX 1 + (0 : BitVec 16).signExtend 64) 8 ∧ s.inRange (s.readX 1 + (4 : BitVec 16).signExtend 64) 4 ∧ e.inRange (e.readX 1 + (4 : BitVec 16).signExtend 64) 4) ∧
    (¬ s.inRange (s.readX 1 + (1 : BitVec 16).signExtend 64) 8 ∧ ¬ s.inRange (s.readX 1 + (5 : BitVec 16).signExtend 64) 4) ∧
    s.inRange (s.readX 1 + (0 : BitVec 16).signExtend 64) 8 ∧ ¬ s.inRange (s.readX 1 + (1 : BitVec 16).signExtend 64) 8 := by decide
theorem witness_RvFpMemoryAndMoves_memory : let s := sample .rv64l .ieee 4; let e := sample .rv64l .ieee 8
    GoesClauses .rv64l s e (s.pc + 4) (e.pc + 4) ∧
    (s.inRange (s.readX 1 + (0 : BitVec 12).signExtend 64) 8 ∧ s.inRange (s.readX 1 + (4 : BitVec 12).signExtend 64) 4 ∧ e.inRange (e.readX 1 + (4 : BitVec 12).signExtend 64) 4) ∧
    (¬ s.inRange (s.readX 1 + (1 : BitVec 12).signExtend 64) 8 ∧ ¬ s.inRange (s.readX 1 + (5 : BitVec 12).signExtend 64) 4) ∧
    s.inRange (s.readX 1 + ((0 : BitVec 7) ++ (0 : BitVec 5)).signExtend 64) 8 ∧ ¬ s.inRange (s.readX 1 + ((0 : BitVec 7) ++ (1 : BitVec 5)).signExtend 64) 8 := by decide
theorem witness_MipsCop1MemoryAndMoves_move : let s := sample .mips64l .ieee 4; let e := sample .mips64l .ieee 8
    GoesClauses .mips64l s e (s.pc + 4) (e.pc + 4) ∧
    WritesClauses 29 s (s.readF 2) (s.pc + 4) s (s.readF 3) e (sext32 (e.readF 2)) (e.pc + 4) := by decide
theorem witness_RvFpMemoryAndMoves_move : let s := sample .rv64l .ieee 4; let e := sample .rv64l .ieee 8
    GoesClauses .rv64l s e (s.pc + 4) (e.pc + 4) ∧
    WritesClauses 2 s (s.readF 2) (s.pc + 4) s (s.readF 3) e (sext32 (e.readF 2)) (e.pc + 4) := by decide

/-- Both completions, the next pc at the end of the program and beyond it. -/
abbrev FloatClauses (isa : Isa) : Prop :=
  GoesClauses isa (sample isa .ieee 4) (sample isa .ieee 8) ((sample isa .ieee 4).pc + 4) ((sample isa .ieee 8).pc + 4) ∧
  (sample isa .ieee 4).cfg.fpuCompletion = .ieee ∧
  (sample isa .report 4).cfg.fpuCompletion = .report ∧ (sample isa .report 4).cfg.isa = isa

theorem witness_MipsCop1Arithmetic : FloatClauses .mips64l := by decide
theorem witness_MipsCop1Compares : FloatClauses .mips64l := by decide
/-- The rounding modes of R645 at both ends of the list. -/
abbrev RoundingClauses : Prop :=
  (0b000#3, Round.rne) ∈ [(0b000#3, Round.rne), (0b001#3, .rtz), (0b010#3, .rdn), (0b011#3, .rup), (0b100#3, .rmm), (0b111#3, .rne)] ∧
  (0b111#3, Round.rne) ∈ [(0b000#3, Round.rne), (0b001#3, .rtz), (0b010#3, .rdn), (0b011#3, .rup), (0b100#3, .rmm), (0b111#3, .rne)] ∧
  ((0b101 : BitVec 3) = 0b101 ∨ (0b101 : BitVec 3) = 0b110) ∧ ((0b110 : BitVec 3) = 0b101 ∨ (0b110 : BitVec 3) = 0b110)

theorem witness_RvFpArithmetic : FloatClauses .rv64l ∧ RoundingClauses := by decide
theorem witness_RvFpFused : FloatClauses .rv64l ∧ RoundingClauses := by decide
theorem witness_RvFpSignAndMinMax : FloatClauses .rv64l := by decide
theorem witness_RvFpComparesAndClass : let s := sample .rv64l .ieee 4; let e := sample .rv64l .ieee 8
    FloatClauses .rv64l ∧
    WritesClauses 2 s (if fpEq .word (s.readF 4) (s.readF 5) then 1 else 0) (s.pc + 4)
      s (if fpEq .word (s.readF 4) (s.readF 4) then 1 else 0) e (if fpLt .word (e.readF 5) (e.readF 4) then 1 else 0) (e.pc + 4) := by
  decide
theorem witness_HaltingInstructions :
    GoesClauses .mips64l (sample .mips64l .report 4) (sample .mips64l .report 8) 8 12 ∧
    GoesClauses .rv64l (sample .rv64l .report 4) (sample .rv64l .report 8) 8 12 := by decide

/-! ### Floating-point numbers -/

theorem witness_FpCompareValues_nan : fpIsNan .word 0x7F800001 = true ∧ fpIsNan .double 0x7FF8000000000000 = true := by
  decide
theorem witness_FpCompareValues_values : (fpValue .word 0x7F800000).isSome = true ∧ (fpValue .word 0x80000000).isSome = true ∧
    fpIsNan .word 0x7F800000 = false ∧ fpIsNan .word 0x80000000 = false := by decide
theorem witness_FpAddAndSub_down : fpRat .word 0x3F800000 = some 1 ∧ fpRat .word 0xBF800000 = some (-1) ∧
    fpRat .word (fpAdd .word .rdn 0x3F800000 0xBF800000) = some 0 ∧ fpRat .word 0xBF800000 = some (-1) ∧
    ((-1 : ℚ) ≤ 1 + -1) := by decide +kernel

/-- One operand of each kind of R641, at the boundary of the kind: NaNs, infinities, zeros, the least subnormal, the greatest
subnormal, the least normal and the greatest finite value. -/
theorem witness_FpFormats :
    ([0x7F800001, 0xFFC00000, 0x7F800000, 0xFF800000, 0x00000000, 0x80000000, 0x00000001, 0x007FFFFF, 0x00800000,
        0xFF7FFFFF].map (fpVal .word)) =
      [.nan false, .nan true, .inf false, .inf true, .fin false 0, .fin true 0, .fin false 1, .fin false (2 ^ 23 - 1),
        .fin false (2 ^ 23), .fin true ((2 ^ 24 - 1) * 2 ^ 253)] ∧
    ([0x7FF0000000000001, 0x7FF8000000000000, 0xFFF0000000000000, 0x8000000000000000, 0x000FFFFFFFFFFFFF,
        0x0010000000000000].map (fpVal .double)) =
      [.nan false, .nan true, .inf true, .fin true 0, .fin false (2 ^ 52 - 1), .fin false (2 ^ 52)] := by decide

/-- The rational values that the hypotheses on finite operands speak of: 1, -1 and 2, with sum 0 and sum 3. -/
theorem witness_fpRat : fpRat .word 0x3F800000 = some 1 ∧ fpRat .word 0xBF800000 = some (-1) ∧
    fpRat .word 0x40000000 = some 2 ∧ fpRat .word 0x80000000 = some 0 := by decide +kernel

/-- Each clause: NaN, two infinities of one and of two signs, infinity and number, two zeros of one and of two signs, an exact
cancellation, a sum that is rounded. -/
theorem witness_FpAddAndSub : fpVal .word 0x7F800001 = .nan false ∧
    (fpVal .word 0x7F800000 = .inf false ∧ fpVal .word 0xFF800000 = .inf true) ∧
    (fpVal .word 0x80000000 = .fin true 0 ∧ fpVal .word 0x00000000 = .fin false 0) ∧
    ((1 : ℚ) ≠ 0 ∧ (1 : ℚ) + -1 = 0) ∧ (1 : ℚ) + 2 ≠ 0 := by
  norm_num; decide

/-- Each clause: NaN, two infinities, an infinity with a zero and with a number, zeros, and two nonzero numbers. -/
theorem witness_FpMulAndDiv : fpVal .double 0x7FF0000000000001 = .nan false ∧
    (fpVal .double 0x7FF0000000000000 = .inf false ∧ fpVal .double 0xFFF0000000000000 = .inf true) ∧
    (fpVal .double 0x8000000000000000 = .fin true 0 ∧ fpVal .double 1 = .fin false 1 ∧ (1 : Nat) ≠ 0) ∧
    ((0 : ℚ) = 0 ∧ (1 : ℚ) ≠ 0 ∧ (-1 : ℚ) ≠ 0) := by
  norm_num; decide

/-- Each clause: NaN, both zeros, both infinities, a negative and a positive number. -/
theorem witness_FpSquareRoot : fpVal .word 0xFFC00000 = .nan true ∧ fpVal .word 0x80000000 = .fin true 0 ∧
    fpVal .word 0x00000000 = .fin false 0 ∧ fpVal .word 0x7F800000 = .inf false ∧ fpVal .word 0xFF800000 = .inf true ∧
    ((-1 : ℚ) < 0 ∧ (0 : ℚ) < 2) := by
  norm_num; decide

/-- Each clause: NaN and number, lesser and greater, the two zeros, identical words with different upper halves. -/
theorem witness_FpMinMaxAndSignInjection : fpVal .word 0x7F800001 = .nan false ∧
    ((fpValue .word 0x3F800000).isSome = true ∧ (fpValue .word 0xFF800000).isSome = true ∧
      fpLt .word 0xFF800000 0x3F800000 = true) ∧
    (fpVal .word 0x80000000 = .fin true 0 ∧ fpVal .word 0x00000000 = .fin false 0) ∧
    fpStored .word 0x100000000 = fpStored .word 0x200000000 := by decide

/-- Each clause: NaN, infinity times zero, an infinite product with the opposite infinity, with its own sign and with a number,
a zero product with a zero and with a number, an exact cancellation and a value that is rounded. -/
theorem witness_FpFusedMultiplyAdd : fpVal .word 0x7F800001 = .nan false ∧
    (fpVal .word 0x7F800000 = .inf false ∧ fpVal .word 0x80000000 = .fin true 0) ∧
    (fpVal .word 0x00000001 = .fin false 1 ∧ (1 : Nat) ≠ 0 ∧
      fpVal .word 0xFF800000 = .inf (!(signBit .word 0x7F800000 ^^ signBit .word 0x00000001)) ∧
      fpVal .word 0x7F800000 ≠ .inf (!(signBit .word 0x7F800000 ^^ signBit .word 0x00000001))) ∧
    ((1 : ℚ) ≠ 0 ∧ (1 : ℚ) * -1 + 1 = 0 ∧ (1 : ℚ) * 2 + 1 ≠ 0) := by
  norm_num; decide


end Sys2Proof.Machine
end

section
/-! PROOFS. Memory (spec/20_memory.md): the bytes of a value and the value of bytes (R83), and what the checked accesses
read and store (R86, R87). -/

namespace Sys2Proof.Machine

/-! ## The bytes of a value and the value of bytes (R83) -/

theorem getElem_bytesLE (n v k : Nat) (hk : k < (bytesLE n v).length) :
    (bytesLE n v)[k] = BitVec.ofNat 8 (v / 256 ^ k) := by
  induction n generalizing v k with
  | zero => simp at hk
  | succ n ih =>
    cases k with
    | zero => simp [bytesLE]
    | succ k => simp [bytesLE, ih, Nat.div_div_eq_div_mul, Nat.pow_succ']

theorem ofNat_div_eq_extractLsb' (v : Word) (k : Nat) :
    BitVec.ofNat 8 (v.toNat / 256 ^ k) = v.extractLsb' (8 * k) 8 := by
  rw [BitVec.extractLsb', Nat.shiftRight_eq_div_pow, Nat.pow_mul]

/-- The bytes a store lays out are the bytes the statements name. -/
theorem getElem_toBytes (o : ByteOrder) (n : Nat) (v : Word) (k : Nat) (hk : k < (toBytes o n v.toNat).length) :
    (toBytes o n v.toNat)[k] = byteOf o n v k := by
  cases o with
  | little => simp only [toBytes, byteOf, getElem_bytesLE, ofNat_div_eq_extractLsb']
  | big =>
    simp only [toBytes, byteOf, List.getElem_reverse, getElem_bytesLE, bytesLE_length, ofNat_div_eq_extractLsb']

theorem valueLE_lt (bs : List Byte) : valueLE bs < 256 ^ bs.length := by
  induction bs with
  | nil => simp [valueLE]
  | cons b bs ih =>
    have hb : b.toNat < 256 := b.isLt
    rw [valueLE, List.length_cons, Nat.pow_succ]
    omega

theorem ofBytes_lt (o : ByteOrder) (bs : List Byte) : ofBytes o bs < 256 ^ bs.length := by
  cases o with
  | little => exact valueLE_lt bs
  | big => simpa [ofBytes] using valueLE_lt bs.reverse

theorem bytesLE_valueLE (bs : List Byte) : bytesLE bs.length (valueLE bs) = bs := by
  induction bs with
  | nil => rfl
  | cons b bs ih =>
    have hb : b.toNat < 256 := b.isLt
    have hlow : BitVec.ofNat 8 (b.toNat + 256 * valueLE bs) = b :=
      BitVec.eq_of_toNat_eq (by rw [BitVec.toNat_ofNat]; omega)
    have hhigh : (b.toNat + 256 * valueLE bs) / 256 = valueLE bs := by omega
    rw [List.length_cons, bytesLE, valueLE, hlow, hhigh, ih]

/-- R83: bytes assembled and laid out again in one byte order come back. -/
theorem toBytes_ofBytes (o : ByteOrder) (bs : List Byte) : toBytes o bs.length (ofBytes o bs) = bs := by
  cases o with
  | little => exact bytesLE_valueLE bs
  | big =>
    have h := bytesLE_valueLE bs.reverse
    rw [List.length_reverse] at h
    rw [toBytes, ofBytes, h, List.reverse_reverse]

/-! ## The bytes of memory -/

theorem getElem_readBytes (m : Memory) (a n k : Nat) (hk : k < (m.readBytes a n).length) :
    (m.readBytes a n)[k] = m.read (a + k) := by
  induction n generalizing a k with
  | zero => simp at hk
  | succ n ih =>
    cases k with
    | zero => rfl
    | succ k => simp [Memory.readBytes, ih, Nat.add_assoc, Nat.add_comm 1 k]

/-- R86: the value assembled from memory fits in the bytes read. -/
theorem ofBytes_readBytes_lt (o : ByteOrder) (m : Memory) (a n : Nat) :
    ofBytes o (m.readBytes a n) < 2 ^ (8 * n) := by
  have h := ofBytes_lt o (m.readBytes a n)
  rwa [readBytes_length, show 256 = 2 ^ 8 from rfl, ← Nat.pow_mul] at h

/-- R86: byte `k` of a word that holds the value assembled from memory is the byte at `a + k`. -/
theorem byteOf_of_toNat_eq_ofBytes {o : ByteOrder} {m : Memory} {a n : Nat} {u : Word}
    (hu : u.toNat = ofBytes o (m.readBytes a n)) {k : Nat} (hk : k < n) : byteOf o n u k = m.read (a + k) := by
  have hbytes : toBytes o n u.toNat = m.readBytes a n := by
    simpa [hu] using toBytes_ofBytes o (m.readBytes a n)
  calc byteOf o n u k
      = (toBytes o n u.toNat)[k]'(by simpa using hk) := (getElem_toBytes o n u k _).symm
    _ = (m.readBytes a n)[k]'(by simpa using hk) := by simp only [hbytes]
    _ = m.read (a + k) := getElem_readBytes m a n k _

/-- R86: at most eight bytes assembled as a word lose nothing. -/
theorem toNat_ofNat_ofBytes_readBytes (o : ByteOrder) (m : Memory) (a : Nat) {n : Nat} (hn : n ≤ 8) :
    (BitVec.ofNat 64 (ofBytes o (m.readBytes a n))).toNat = ofBytes o (m.readBytes a n) := by
  rw [BitVec.toNat_ofNat]
  exact Nat.mod_eq_of_lt ((ofBytes_readBytes_lt o m a n).trans_le (Nat.pow_le_pow_right (by decide) (by omega)))

/-- R87: what a write stores and what it leaves, for every width. -/
theorem storedIn_writeBytes (s : State) (a : Word) (n : Nat) (v : Word) :
    StoredIn s (s.mem.writeBytes a.toNat (toBytes s.cfg.byteOrder n v.toNat)) a n v := by
  constructor
  · intro k hk
    rw [read_writeBytes, dif_pos ⟨by omega, by simpa using hk⟩, getElem_toBytes, Nat.add_sub_cancel_left]
  · intro b hb
    exact read_writeBytes_outside s.mem (by simpa using hb)

/-! ## The checked accesses (R86, R87) -/

theorem memRead_of_inRange {s : State} {a : Word} {n : Nat} (hn : n ≤ 8) (hr : s.inRange a n) :
    ∃ u, s.memRead a n = .ok u ∧ u.toNat < 2 ^ (8 * n) ∧
      ∀ k < n, byteOf s.cfg.byteOrder n u k = s.mem.read (a.toNat + k) := by
  have hu := toNat_ofNat_ofBytes_readBytes s.cfg.byteOrder s.mem a.toNat hn
  have hread := ((memRead_cases s a n).resolve_right fun h => h.1 hr).2
  refine ⟨_, hread, ?_, fun k hk => byteOf_of_toNat_eq_ofBytes hu hk⟩
  rw [hu]
  exact ofBytes_readBytes_lt s.cfg.byteOrder s.mem a.toNat n

theorem memWrite_of_inRange {s : State} {a : Word} {n : Nat} (v : Word) (hr : s.inRange a n) :
    ∃ m, s.memWrite a n v = .ok { s with mem := m } ∧ StoredIn s m a n v :=
  ⟨_, ((memWrite_cases s a n v).resolve_right fun h => h.1 hr).2, storedIn_writeBytes s a n v⟩

theorem memRead_of_not_inRange {s : State} {a : Word} {n : Nat} (hr : ¬ s.inRange a n) :
    s.memRead a n = .error (.outOfBounds a n) :=
  ((memRead_cases s a n).resolve_left fun h => hr h.1).2

theorem memWrite_of_not_inRange {s : State} {a : Word} {n : Nat} (v : Word) (hr : ¬ s.inRange a n) :
    s.memWrite a n v = .error (.outOfBounds a n) :=
  ((memWrite_cases s a n v).resolve_left fun h => hr h.1).2

/-- Settles O28: the bytes of the value read are those of memory because laying out an assembled value gives its bytes back,
and the bytes stored are those of the value because a layout's byte `k` is the value's byte `k`. -/
theorem memReadAndWriteBytes : Obligations.MemReadAndWriteBytes := by
  intro s a v n hn
  have hn8 : n ≤ 8 := by
    simp only [List.mem_cons, List.not_mem_nil, or_false] at hn
    omega
  exact ⟨memRead_of_inRange hn8, memRead_of_not_inRange, memWrite_of_inRange v, memWrite_of_not_inRange v⟩

end Sys2Proof.Machine
end

section
/-! PROOFS. The integer ALU (spec/40_datapath.md R190 to R199): its shifts, high products and divisions as arithmetic on
vectors of any width, and its word operations as functions of the low halves. -/

namespace Sys2Proof.Machine

/-! ## Words sign-extended to 64 bits (R18, R199) -/

@[simp] theorem toInt_ext32 (v : Word32) : (ext32 v).toInt = v.toInt :=
  BitVec.toInt_signExtend_of_le (by decide)

@[simp] theorem low32_ext32 (v : Word32) : low32 (ext32 v) = v := by
  ext i hi
  rw [low32, ext32, BitVec.getElem_setWidth, BitVec.getLsbD_eq_getElem (by omega), BitVec.getElem_signExtend, dif_pos hi]

theorem sext32_ext32 (v : Word32) : sext32 (ext32 v) = ext32 v := congrArg ext32 (low32_ext32 v)

/-! ## Sums and differences (R191) -/

theorem add_eq_ofNat {n : Nat} (x y : BitVec n) : x + y = BitVec.ofNat n (x.toNat + y.toNat) :=
  BitVec.eq_of_toNat_eq (by rw [BitVec.toNat_add, BitVec.toNat_ofNat])

theorem sub_eq_ofInt {n : Nat} (x y : BitVec n) : x - y = BitVec.ofInt n (x.toInt - y.toInt) :=
  BitVec.eq_of_toInt_eq (by rw [BitVec.toInt_sub, BitVec.toInt_ofInt])

/-! ## Shifts (R194) -/

theorem shiftLeft_eq_ofNat {n : Nat} (x : BitVec n) (k : Nat) : x <<< k = BitVec.ofNat n (x.toNat * 2 ^ k) :=
  BitVec.eq_of_toNat_eq (by rw [BitVec.toNat_shiftLeft, BitVec.toNat_ofNat, Nat.shiftLeft_eq])

theorem ushiftRight_eq_ofNat {n : Nat} (x : BitVec n) (k : Nat) : x >>> k = BitVec.ofNat n (x.toNat / 2 ^ k) := by
  rw [← Nat.shiftRight_eq_div_pow, ← BitVec.toNat_ushiftRight, BitVec.ofNat_toNat, BitVec.setWidth_eq]

theorem toInt_sshiftRight_eq_div {n : Nat} (x : BitVec n) (k : Nat) : (x.sshiftRight k).toInt = x.toInt / 2 ^ k := by
  rw [BitVec.toInt_sshiftRight, Int.shiftRight_eq_div_pow, Nat.cast_pow, Nat.cast_ofNat]

theorem sshiftRight_eq_ofInt {n : Nat} (x : BitVec n) (k : Nat) :
    x.sshiftRight k = BitVec.ofInt n (x.toInt / 2 ^ k) := by
  rw [← toInt_sshiftRight_eq_div, BitVec.ofInt_toInt]

/-! ## The high half of a product (R196) -/

theorem emod_mul_self_ediv_emod (p m : Int) (hm : m ≠ 0) : p % (m * m) / m % m = p / m % m := by
  have hsplit : p % (m * m) = p + m * (-(m * (p / (m * m)))) := by
    rw [Int.emod_def]
    ring
  rw [hsplit, Int.add_mul_ediv_left p _ hm, ← sub_eq_add_neg, Int.sub_mul_emod_self_left]

/-- R196: the bits `2n-1:n` of a product are those of its quotient by `2^n` rounded down. -/
theorem highHalf_eq_ofInt (n : Nat) (p : Int) : highHalf n p = BitVec.ofInt n (p / 2 ^ n) := by
  have hpow : (2 : Int) ^ (2 * n) = 2 ^ n * 2 ^ n := by rw [two_mul, pow_add]
  have hnonneg : 0 ≤ p % (2 ^ n * 2 ^ n) := Int.emod_nonneg p (by positivity)
  apply BitVec.eq_of_toNat_eq
  zify
  rw [highHalf, BitVec.extractLsb'_toNat, BitVec.toNat_ofInt, BitVec.toNat_ofInt, Nat.shiftRight_eq_div_pow]
  push_cast
  rw [hpow, Int.toNat_of_nonneg hnonneg, Int.toNat_of_nonneg (Int.emod_nonneg _ (by positivity)),
    emod_mul_self_ediv_emod _ _ (by positivity)]

/-- A high half keeps the whole quotient of a product that fits in `2n` signed bits. -/
theorem toInt_highHalf {n : Nat} {p : Int} (hn : 0 < n) (hlo : -2 ^ (n - 1) * 2 ^ n ≤ p) (hhi : p < 2 ^ (n - 1) * 2 ^ n) :
    (highHalf n p).toInt = p / 2 ^ n := by
  rw [highHalf_eq_ofInt]
  exact BitVec.toInt_ofInt_eq_self hn (Int.le_ediv_of_mul_le (by positivity) hlo) (Int.ediv_lt_of_lt_mul (by positivity) hhi)

theorem toInt_highHalf_signed {n : Nat} (hn : 0 < n) (a b : BitVec n) :
    (highHalf n (a.toInt * b.toInt)).toInt = a.toInt * b.toInt / 2 ^ n := by
  have hpow : (2 : Int) ^ (n * 2 - 2) < 2 ^ (n - 1) * 2 ^ n := by
    rw [← pow_add]
    exact pow_lt_pow_right₀ (by norm_num) (by omega)
  have hlo : -2 ^ (n * 2 - 2) ≤ a.toInt * b.toInt := BitVec.le_toInt_mul_toInt
  have hhi : a.toInt * b.toInt ≤ 2 ^ (n * 2 - 2) := BitVec.toInt_mul_toInt_le
  exact toInt_highHalf hn (by linarith) (by linarith)

theorem toInt_highHalf_signed_unsigned {n : Nat} (hn : 0 < n) (a b : BitVec n) :
    (highHalf n (a.toInt * (b.toNat : Int))).toInt = a.toInt * (b.toNat : Int) / 2 ^ n := by
  have hb : (b.toNat : Int) < 2 ^ n := by exact_mod_cast b.isLt
  have hpos : (0 : Int) < 2 ^ (n - 1) := by positivity
  apply toInt_highHalf hn
  · calc -2 ^ (n - 1) * 2 ^ n
        ≤ -2 ^ (n - 1) * (b.toNat : Int) := mul_le_mul_of_nonpos_left hb.le (by linarith)
      _ ≤ a.toInt * b.toNat := mul_le_mul_of_nonneg_right a.le_toInt (by positivity)
  · calc a.toInt * b.toNat
        ≤ 2 ^ (n - 1) * (b.toNat : Int) := mul_le_mul_of_nonneg_right a.toInt_lt.le (by positivity)
      _ < 2 ^ (n - 1) * 2 ^ n := mul_lt_mul_of_pos_left hb hpos

theorem highHalf_unsigned {n : Nat} (a b : BitVec n) :
    highHalf n ((a.toNat : Int) * (b.toNat : Int)) = BitVec.ofNat n (a.toNat * b.toNat / 2 ^ n) := by
  rw [highHalf_eq_ofInt, ← BitVec.ofInt_natCast]
  push_cast
  rfl

theorem toNat_highHalf_unsigned {n : Nat} (a b : BitVec n) :
    (highHalf n ((a.toNat : Int) * (b.toNat : Int))).toNat = a.toNat * b.toNat / 2 ^ n := by
  have hfits : a.toNat * b.toNat / 2 ^ n < 2 ^ n :=
    Nat.div_lt_of_lt_mul (Nat.mul_lt_mul'' a.isLt b.isLt)
  rw [highHalf_unsigned, BitVec.toNat_ofNat, Nat.mod_eq_of_lt hfits]

/-! ## Division (R197, R198) -/

section
variable {n : Nat}

@[simp] theorem divSigned_zero (a : BitVec n) : divSigned a 0#n = BitVec.allOnes n := if_pos rfl

@[simp] theorem remSigned_zero (a : BitVec n) : remSigned a 0#n = a := if_pos rfl

@[simp] theorem divUnsigned_zero (a : BitVec n) : divUnsigned a 0#n = BitVec.allOnes n := if_pos rfl

@[simp] theorem remUnsigned_zero (a : BitVec n) : remUnsigned a 0#n = a := if_pos rfl

theorem divUnsigned_of_ne_zero (a : BitVec n) {b : BitVec n} (hb : b ≠ 0) :
    divUnsigned a b = BitVec.ofNat n (a.toNat / b.toNat) := if_neg hb

theorem toNat_divUnsigned (a : BitVec n) {b : BitVec n} (hb : b ≠ 0) :
    (divUnsigned a b).toNat = a.toNat / b.toNat := by
  rw [divUnsigned_of_ne_zero a hb, ← BitVec.toNat_udiv, BitVec.ofNat_toNat, BitVec.setWidth_eq]

/-- The zero divisor needs no case of its own here: a number modulo 0 is that number. -/
theorem remUnsigned_eq_ofNat (a b : BitVec n) : remUnsigned a b = BitVec.ofNat n (a.toNat % b.toNat) := by
  by_cases hb : b = 0#n
  · rw [hb, remUnsigned_zero, BitVec.toNat_zero, Nat.mod_zero, BitVec.ofNat_toNat, BitVec.setWidth_eq]
  · exact if_neg hb

theorem toNat_remUnsigned (a b : BitVec n) : (remUnsigned a b).toNat = a.toNat % b.toNat := by
  rw [remUnsigned_eq_ofNat, ← BitVec.toNat_umod, BitVec.ofNat_toNat, BitVec.setWidth_eq]

/-- The model tests for the overflow by bit patterns, R197 states it by values. -/
theorem signedOverflow_iff (hn : 0 < n) (a b : BitVec n) :
    (a = BitVec.intMin n ∧ b = BitVec.allOnes n) ↔ (a.toInt = -2 ^ (n - 1) ∧ b.toInt = -1) := by
  rw [← BitVec.toInt_inj, ← BitVec.toInt_inj, BitVec.toInt_intMin_of_pos hn, BitVec.toInt_allOnes, if_pos hn]

theorem divSigned_of_overflow (hn : 0 < n) {a b : BitVec n} (ha : a.toInt = -2 ^ (n - 1)) (hb : b.toInt = -1) :
    divSigned a b = a := by
  have hb0 : b ≠ 0 := by
    rintro rfl
    simp at hb
  rw [divSigned, if_neg hb0, if_pos ((signedOverflow_iff hn a b).2 ⟨ha, hb⟩)]

/-- In the ordinary case the quotient fits in `n` bits, as that of `BitVec.sdiv` does. -/
theorem toInt_divSigned (hn : 0 < n) {a b : BitVec n} (hb : b ≠ 0) (ho : ¬ (a.toInt = -2 ^ (n - 1) ∧ b.toInt = -1)) :
    (divSigned a b).toInt = a.toInt.tdiv b.toInt := by
  have hoverflow : ¬ (a = BitVec.intMin n ∧ b = BitVec.allOnes n) := mt (signedOverflow_iff hn a b).1 ho
  have hfits : a ≠ BitVec.intMin n ∨ b ≠ -1#n := by
    rwa [BitVec.neg_one_eq_allOnes, ← not_and_or]
  rw [divSigned, if_neg hb, if_neg hoverflow, BitVec.toInt_ofInt, ← BitVec.toInt_sdiv,
    BitVec.toInt_sdiv_of_ne_or_ne a b hfits]

/-- The special cases of R197 and R198 agree with `BitVec.srem`: the remainder by 0 is the dividend, the one by -1 is 0. -/
theorem remSigned_eq_srem (a b : BitVec n) : remSigned a b = a.srem b := by
  by_cases hb : b = 0
  · subst hb
    exact (remSigned_zero a).trans BitVec.srem_zero.symm
  have hn : 0 < n := Nat.pos_of_ne_zero (by rintro rfl; exact hb (BitVec.of_length_zero))
  rw [remSigned, if_neg hb]
  split
  case isTrue hoverflow =>
    have hdvd : b.toInt ∣ a.toInt := by
      rw [hoverflow.2, BitVec.toInt_allOnes, if_pos hn]
      exact neg_dvd.2 (one_dvd _)
    exact (BitVec.srem_zero_of_dvd hdvd).symm
  case isFalse => rw [← BitVec.toInt_srem, BitVec.ofInt_toInt]

/-- A remainder always fits, so this holds for the zero divisor and the overflow too. -/
theorem toInt_remSigned (a b : BitVec n) : (remSigned a b).toInt = a.toInt - b.toInt * a.toInt.tdiv b.toInt := by
  rw [remSigned_eq_srem, BitVec.toInt_srem, Int.tmod_def]

theorem remSigned_of_toInt_eq_neg_one (a : BitVec n) {b : BitVec n} (hb : b.toInt = -1) : remSigned a b = 0 := by
  apply BitVec.eq_of_toInt_eq
  simp [toInt_remSigned, hb]

end

/-! ## The operations -/

/-- Settles O23: the two comparisons answer a truth value as a word (R193), the others are the bitwise operations. -/
theorem aluLogic : Obligations.AluLogic := by
  intro a b
  refine ⟨rfl, rfl, rfl, rfl, ?slt, ?sltu⟩
  case slt => simp only [alu, boolWord, decide_eq_true_eq]
  case sltu => simp only [alu, boolWord, decide_eq_true_eq]

/-- Settles O24: the word forms extend the shifted low half, and a shift by a register is one by the low bits of `b`. -/
theorem aluShifts : Obligations.AluShifts := by
  intro a b n k
  refine ⟨?sll64, ?srl64, ?sra64, ?sll32, ?srl32, ?sra32, ?sll64_zero, ?srl64_zero, ?sra64_zero, ?sll32_zero,
    ?srl32_zero, ?sra32_zero, rfl, rfl, rfl, rfl, rfl, rfl⟩
  case sll64 => rw [alu, BitVec.toNat_shiftLeft, Nat.shiftLeft_eq]
  case srl64 => rw [alu, BitVec.toNat_ushiftRight, Nat.shiftRight_eq_div_pow]
  case sra64 => exact toInt_sshiftRight_eq_div a n.toNat
  case sll32 => exact congrArg ext32 (shiftLeft_eq_ofNat (low32 a) k.toNat)
  case srl32 => exact congrArg ext32 (ushiftRight_eq_ofNat (low32 a) k.toNat)
  case sra32 => exact congrArg ext32 (sshiftRight_eq_ofInt (low32 a) k.toNat)
  case sll64_zero => exact BitVec.shiftLeft_zero a
  case srl64_zero => exact BitVec.ushiftRight_zero a
  case sra64_zero => exact BitVec.sshiftRight_zero
  case sll32_zero => exact congrArg ext32 (BitVec.shiftLeft_zero (low32 a))
  case srl32_zero => exact congrArg ext32 (BitVec.ushiftRight_zero (low32 a))
  case sra32_zero => exact congrArg ext32 BitVec.sshiftRight_zero

/-- Settles O25: a high half is the quotient of the exact product rounded down, which fits in the word. -/
theorem aluAddMultiply : Obligations.AluAddMultiply := by
  intro a b
  refine ⟨rfl, ?add64, ?sub64, ?add32, ?sub32, ?mul64, ?mulh64, ?mulhsu64, ?mulhu64, rfl, ?mulh32, ?mulhu32⟩
  case add64 => exact BitVec.toNat_add a b
  case sub64 => exact BitVec.toInt_sub
  case add32 => exact congrArg ext32 (add_eq_ofNat (low32 a) (low32 b))
  case sub32 => exact congrArg ext32 (sub_eq_ofInt (low32 a) (low32 b))
  case mul64 => exact BitVec.toNat_ofNat _ _
  case mulh64 => exact toInt_highHalf_signed (by decide) a b
  case mulhsu64 => exact toInt_highHalf_signed_unsigned (by decide) a b
  case mulhu64 => exact toNat_highHalf_unsigned a b
  case mulh32 => exact congrArg ext32 (highHalf_eq_ofInt 32 ((low32 a).toInt * (low32 b).toInt))
  case mulhu32 => exact congrArg ext32 (highHalf_unsigned (low32 a) (low32 b))

/-- Settles O26: both widths are the divisions of `n`-bit vectors, the word forms with the result extended. -/
theorem aluDivide : Obligations.AluDivide := by
  intro a b x y
  refine ⟨?zero64, ?overflow64, ?ordinary64, ?unsigned64, ?zero32, ?overflow32, ?ordinary32, ?unsigned32⟩
  case zero64 =>
    rintro rfl
    exact ⟨divSigned_zero a, remSigned_zero a, divUnsigned_zero a, remUnsigned_zero a⟩
  case overflow64 => exact fun ha hb => ⟨divSigned_of_overflow (by decide) ha hb, remSigned_of_toInt_eq_neg_one a hb⟩
  case ordinary64 => exact fun hb ho => ⟨toInt_divSigned (by decide) hb ho, toInt_remSigned a b⟩
  case unsigned64 => exact fun hb => ⟨toNat_divUnsigned a hb, toNat_remUnsigned a b⟩
  case zero32 =>
    intro (hy : low32 b = 0#32)
    simp only [alu, hy, divSigned_zero, remSigned_zero, divUnsigned_zero, remUnsigned_zero]
    exact ⟨by decide, rfl, by decide, rfl⟩
  case overflow32 =>
    intro hx hy
    have hmin : x = 0x80000000 := BitVec.eq_of_toInt_eq hx
    constructor
    · calc ext32 (divSigned x y)
          = ext32 x := congrArg ext32 (divSigned_of_overflow (by decide) hx hy)
        _ = sext32 0x80000000 := by rw [hmin]; rfl
    · calc ext32 (remSigned x y)
          = ext32 0 := congrArg ext32 (remSigned_of_toInt_eq_neg_one x hy)
        _ = 0 := by decide
  case ordinary32 =>
    intro hy ho
    exact ⟨(toInt_ext32 _).trans (toInt_divSigned (by decide) hy ho),
      (toInt_ext32 _).trans (toInt_remSigned x y)⟩
  case unsigned32 =>
    exact fun hy => ⟨congrArg ext32 (divUnsigned_of_ne_zero x hy), congrArg ext32 (remUnsigned_eq_ofNat x y)⟩

/-- R199: a word operation is a function of the low halves of its operands, its result sign-extended. -/
theorem alu_wordOp_eq_ext32 {op : AluOp} {k : BitVec 5}
    (hop : op ∈ [AluOp.sll32 k, AluOp.srl32 k, AluOp.sra32 k, AluOp.add32, AluOp.sub32, AluOp.sllV32, AluOp.srlV32,
      AluOp.sraV32, AluOp.mul32, AluOp.mulh32, AluOp.mulhu32, AluOp.div32, AluOp.rem32, AluOp.divu32, AluOp.remu32]) :
    ∃ f : Word32 → Word32 → Word32, ∀ a b, alu op a b = ext32 (f (low32 a) (low32 b)) := by
  have hamount (b : Word) : b.extractLsb' 0 5 = (low32 b).extractLsb' 0 5 :=
    (BitVec.extractLsb'_setWidth_of_le (by decide)).symm
  simp only [List.mem_cons, List.not_mem_nil, or_false] at hop
  obtain rfl | rfl | rfl | rfl | rfl | rfl | rfl | rfl | rfl | rfl | rfl | rfl | rfl | rfl | rfl := hop
  · exact ⟨fun x _ => x <<< k.toNat, fun _ _ => rfl⟩
  · exact ⟨fun x _ => x >>> k.toNat, fun _ _ => rfl⟩
  · exact ⟨fun x _ => x.sshiftRight k.toNat, fun _ _ => rfl⟩
  · exact ⟨fun x y => x + y, fun _ _ => rfl⟩
  · exact ⟨fun x y => x - y, fun _ _ => rfl⟩
  · exact ⟨fun x y => x <<< (y.extractLsb' 0 5).toNat, fun _ b => by rw [alu, hamount b]⟩
  · exact ⟨fun x y => x >>> (y.extractLsb' 0 5).toNat, fun _ b => by rw [alu, hamount b]⟩
  · exact ⟨fun x y => x.sshiftRight (y.extractLsb' 0 5).toNat, fun _ b => by rw [alu, hamount b]⟩
  · exact ⟨fun x y => BitVec.ofNat 32 (x.toNat * y.toNat), fun _ _ => rfl⟩
  · exact ⟨fun x y => highHalf 32 (x.toInt * y.toInt), fun _ _ => rfl⟩
  · exact ⟨fun x y => highHalf 32 (x.toNat * y.toNat), fun _ _ => rfl⟩
  · exact ⟨divSigned, fun _ _ => rfl⟩
  · exact ⟨remSigned, fun _ _ => rfl⟩
  · exact ⟨divUnsigned, fun _ _ => rfl⟩
  · exact ⟨remUnsigned, fun _ _ => rfl⟩

/-- Settles O27: equal low halves give equal results, and an extended word is the extension of its low half. -/
theorem aluWordInputs : Obligations.AluWordInputs := by
  intro a b c d k op hac hbd hop
  obtain ⟨f, hf⟩ := alu_wordOp_eq_ext32 hop
  constructor
  · have hac : low32 a = low32 c := hac
    have hbd : low32 b = low32 d := hbd
    rw [hf, hf, hac, hbd]
  · rw [hf, sext32_ext32]

end Sys2Proof.Machine
end

section
/-! PROOFS. The encodings of the floating-point formats (spec/47_fp_numerics.md R640 to R643): an operand is its sign and its
magnitude bits, each kind of value is a range of magnitude bits, and magnitude bits order finite values. -/

namespace Sys2Proof.Machine

/-! ## Sign and magnitude bits (R640, R643) -/

theorem fpMag_lt_signWeight (w : FpWidth) (v : Word) : fpMag w v < w.signWeight :=
  Nat.mod_lt _ (by cases w <;> decide)

theorem select_lt (w : FpWidth) (v : Word) : w.select v < 2 * w.signWeight := by
  cases w with
  | word => exact Nat.mod_lt _ (by decide)
  | double => exact v.isLt

theorem select_eq (w : FpWidth) (v : Word) : w.select v = (if fpSign w v then w.signWeight else 0) + fpMag w v := by
  have hlt : w.select v / w.signWeight < 2 := Nat.div_lt_of_lt_mul (by rw [Nat.mul_comm]; exact select_lt w v)
  have hsplit := Nat.div_add_mod (w.select v) w.signWeight
  unfold fpSign fpMag
  obtain h | h := Nat.le_one_iff_eq_zero_or_eq_one.mp (Nat.le_of_lt_succ hlt)
  · rw [h, mul_zero] at hsplit
    simpa [h] using hsplit.symm
  · rw [h, mul_one] at hsplit
    simpa [h] using hsplit.symm

theorem select_eq_iff (w : FpWidth) (a b : Word) :
    w.select a = w.select b ↔ fpSign w a = fpSign w b ∧ fpMag w a = fpMag w b := by
  refine ⟨fun h => by simp only [fpSign, fpMag, h, and_self], fun ⟨hs, hm⟩ => ?_⟩
  rw [select_eq w a, select_eq w b, hs, hm]

theorem fpCopy_eq_fpStored (w : FpWidth) (v : Word) : fpCopy w v = fpStored w v := by
  cases w with
  | word => exact BitVec.eq_of_toNat_eq (by simp [fpCopy, fpStored, FpWidth.select])
  | double => exact (BitVec.ofNat_toNat 64 v).trans (BitVec.setWidth_eq v)

theorem fpCopy_eq_fpCopy_iff (w : FpWidth) (a b : Word) : fpCopy w a = fpCopy w b ↔ w.select a = w.select b := by
  have hlt (v : Word) : w.select v < 2 ^ 64 := (select_lt w v).trans_le (two_mul_signWeight_le w)
  rw [fpCopy, fpCopy, ← BitVec.toNat_inj, BitVec.toNat_ofNat, BitVec.toNat_ofNat, Nat.mod_eq_of_lt (hlt a),
    Nat.mod_eq_of_lt (hlt b)]

/-- R660, R665: a sign above the magnitude bits of an operand. -/
theorem select_fpOfMag_fpMag (w : FpWidth) (neg : Bool) (v : Word) :
    w.select (fpOfMag w neg (fpMag w v)) = (if neg then w.signWeight else 0) + fpMag w v :=
  fpOfMag_select (fpMag_lt_signWeight w v)

theorem fpSign_word (v : Word) : fpSign .word v = v.getLsbD 31 := by
  have hbit : v.toNat % 2 ^ 32 / 2 ^ 31 = v.toNat / 2 ^ 31 % 2 := by omega
  rw [BitVec.getLsbD, Nat.testBit_eq_decide_div_mod_eq, ← hbit]
  rfl

theorem fpSign_double (v : Word) : fpSign .double v = v.getLsbD 63 := by
  have hbit : v.toNat / 2 ^ 63 = v.toNat / 2 ^ 63 % 2 := by have := v.isLt; omega
  rw [BitVec.getLsbD, Nat.testBit_eq_decide_div_mod_eq, ← hbit]
  rfl

theorem fpMag_word (v : Word) : fpMag .word v = (v.extractLsb' 0 31).toNat :=
  Nat.mod_mod_of_dvd v.toNat (show 2 ^ 31 ∣ 2 ^ 32 by decide)

theorem fpMag_double (v : Word) : fpMag .double v = (v.extractLsb' 0 63).toNat := rfl

theorem signBit_eq_fpSign (w : FpWidth) (v : Word) : signBit w v = fpSign w v := by
  cases w with
  | word => exact (fpSign_word v).symm
  | double => exact (fpSign_double v).symm

theorem fpMag_flipSign (w : FpWidth) (v : Word) : fpMag w (flipSign w v) = fpMag w v := by
  cases w with
  | word => rw [fpMag_word, fpMag_word, flipSign, BitVec.extractLsb'_xor]; simp
  | double => rw [fpMag_double, fpMag_double, flipSign, BitVec.extractLsb'_xor]; simp

theorem fpSign_flipSign (w : FpWidth) (v : Word) : fpSign w (flipSign w v) = !fpSign w v := by
  rw [← signBit_eq_fpSign, ← signBit_eq_fpSign]
  cases w <;> simp [signBit, flipSign]

/-- R660: the model's `fpNeg` and the inverted sign bit select the same encoding. -/
theorem select_flipSign (w : FpWidth) (v : Word) : w.select (flipSign w v) = w.select (fpNeg w v) := by
  rw [select_eq, fpSign_flipSign, fpMag_flipSign, fpNeg, select_fpOfMag_fpMag]

/-! ## Exponent and fraction (R640) -/

theorem infMag_pos (w : FpWidth) : 0 < w.infMag := by cases w <;> decide

theorem fpMag_split (w : FpWidth) (v : Word) :
    fpMag w v = fpMag w v / 2 ^ w.fracBits * 2 ^ w.fracBits + fpMag w v % 2 ^ w.fracBits :=
  (Nat.div_add_mod' _ _).symm

theorem exponent_le (w : FpWidth) (v : Word) : fpMag w v / 2 ^ w.fracBits ≤ 2 ^ w.expBits - 1 := by
  have hlt : fpMag w v / 2 ^ w.fracBits < 2 ^ w.expBits := by
    rw [Nat.div_lt_iff_lt_mul (by positivity), ← pow_add]
    exact fpMag_lt_signWeight w v
  omega

theorem fpMag_lt_infMag_iff (w : FpWidth) (v : Word) :
    fpMag w v < w.infMag ↔ fpMag w v / 2 ^ w.fracBits < 2 ^ w.expBits - 1 :=
  (Nat.div_lt_iff_lt_mul (by positivity)).symm

/-- With the highest exponent the magnitude bits are those of the infinity and the fraction. -/
theorem fpMag_of_top {w : FpWidth} {v : Word} (h : w.infMag ≤ fpMag w v) :
    fpMag w v / 2 ^ w.fracBits = 2 ^ w.expBits - 1 ∧ fpMag w v = w.infMag + fpMag w v % 2 ^ w.fracBits := by
  have htop : fpMag w v / 2 ^ w.fracBits = 2 ^ w.expBits - 1 :=
    le_antisymm (exponent_le w v) (not_lt.mp fun hlt => h.not_gt ((fpMag_lt_infMag_iff w v).mpr hlt))
  refine ⟨htop, ?_⟩
  have hsplit := fpMag_split w v
  rwa [htop] at hsplit

/-! ## The kinds of values (R641) -/

theorem fpVal_eq_fin_iff {w : FpWidth} {v : Word} {s : Bool} {u : Nat} :
    fpVal w v = .fin s u ↔ fpMag w v < w.infMag ∧ fpSign w v = s ∧ unitsOf w (fpMag w v) = u := by
  unfold fpVal
  split_ifs with hfin
  · simp [hfin]
  · simp [hfin]
  · simp [hfin]

theorem fpVal_eq_inf_iff {w : FpWidth} {v : Word} {s : Bool} :
    fpVal w v = .inf s ↔ fpMag w v = w.infMag ∧ fpSign w v = s := by
  unfold fpVal
  split_ifs with hfin hinf
  · simp [hfin.ne]
  · simp [hinf]
  · simp [hinf]

theorem fpVal_eq_nan_iff {w : FpWidth} {v : Word} {q : Bool} :
    fpVal w v = .nan q ↔ w.infMag < fpMag w v ∧ decide (w.infMag + 2 ^ (w.fracBits - 1) ≤ fpMag w v) = q := by
  unfold fpVal
  split_ifs with hfin hinf
  · simp [hfin.not_gt]
  · simp [hinf]
  · simp [lt_of_le_of_ne (not_lt.mp hfin) (Ne.symm hinf)]

theorem fpVal_congr {w : FpWidth} {a b : Word} (h : w.select a = w.select b) : fpVal w a = fpVal w b := by
  unfold fpVal fpMag fpSign
  rw [h]

theorem sign_of_fpVal_inf {w : FpWidth} {v : Word} {s : Bool} (h : fpVal w v = .inf s) : signBit w v = s := by
  rw [signBit_eq_fpSign]; exact (fpVal_eq_inf_iff.mp h).2

theorem sign_of_fpVal_fin {w : FpWidth} {v : Word} {s : Bool} {u : Nat} (h : fpVal w v = .fin s u) :
    signBit w v = s := by
  rw [signBit_eq_fpSign]; exact (fpVal_eq_fin_iff.mp h).2.1

theorem fpVal_cases_of_not_nan {w : FpWidth} {v : Word} (h : fpIsNan w v = false) :
    (∃ s, fpVal w v = .inf s) ∨ ∃ s u, fpVal w v = .fin s u := by
  cases hv : fpVal w v with
  | nan q =>
    have hlt := (fpVal_eq_nan_iff.mp hv).1
    simp [fpIsNan, hlt.not_ge] at h
  | inf s => exact Or.inl ⟨s, rfl⟩
  | fin s u => exact Or.inr ⟨s, u, rfl⟩

theorem fpIsNan_iff (w : FpWidth) (v : Word) : fpIsNan w v = true ↔ ∃ q, fpVal w v = .nan q := by
  simp [fpIsNan, fpVal_eq_nan_iff]

/-! ## Units (R641) -/

/-- All magnitude bits are those that `roundPack` builds from a number of units of precision `p`. -/
theorem exists_placed (w : FpWidth) (mag : Nat) :
    ∃ q n, mag = q * 2 ^ w.fracBits + n ∧ n < 2 ^ w.precision ∧ Placed w q n := by
  have hprec := pow_precision w
  have hpos : 0 < 2 ^ w.fracBits := by positivity
  have hsplit := Nat.div_add_mod' mag (2 ^ w.fracBits)
  have hfrac := Nat.mod_lt mag hpos
  cases hexp : mag / 2 ^ w.fracBits with
  | zero =>
    have hsub : mag < 2 ^ w.fracBits := (Nat.div_eq_zero_iff_lt hpos).mp hexp
    exact ⟨0, mag, by rw [zero_mul, zero_add], by omega, by omega, Or.inl rfl⟩
  | succ q =>
    rw [hexp, Nat.succ_mul] at hsplit
    exact ⟨q, 2 ^ w.fracBits + mag % 2 ^ w.fracBits, by omega, by omega, by omega, Or.inr (Nat.le_add_right _ _)⟩

theorem unitsOf_strictMono (w : FpWidth) : StrictMono (unitsOf w) := by
  refine strictMono_nat_of_lt_succ fun mag => ?_
  obtain ⟨q, n, rfl, hn, hp⟩ := exists_placed w mag
  have hnext : Placed w q (n + 1) := ⟨hn, hp.2.imp_right fun h => h.trans (Nat.le_succ n)⟩
  rw [Nat.add_assoc, unitsOf_placed hp, unitsOf_placed hnext]
  exact Nat.mul_lt_mul_of_pos_right (Nat.lt_succ_self n) (by positivity)

@[simp] theorem unitsOf_zero (w : FpWidth) : unitsOf w 0 = 0 := by simp [unitsOf]

theorem unitsOf_eq_zero_iff (w : FpWidth) (mag : Nat) : unitsOf w mag = 0 ↔ mag = 0 := by
  simpa using (unitsOf_strictMono w).injective.eq_iff (a := mag) (b := 0)

/-- Subnormal magnitude bits are their own units. -/
theorem unitsOf_lt_iff (w : FpWidth) (mag : Nat) : unitsOf w mag < 2 ^ w.fracBits ↔ mag < 2 ^ w.fracBits := by
  have h : unitsOf w (2 ^ w.fracBits) = 2 ^ w.fracBits := by simp [unitsOf]
  simpa only [h] using (unitsOf_strictMono w).lt_iff_lt (a := mag) (b := 2 ^ w.fracBits)

theorem signedUnits_eq_iff (s t : Bool) (m n : Nat) :
    signedUnits s m = signedUnits t n ↔ s = t ∧ m = n ∨ m = 0 ∧ n = 0 := by
  cases s <;> cases t <;> simp [signedUnits] <;> omega

@[simp] theorem signedUnits_eq_zero_iff (s : Bool) (n : Nat) : signedUnits s n = 0 ↔ n = 0 := by
  cases s <;> simp [signedUnits]

/-! ## Values on the extended line (R641, R655) -/

theorem fpRat_of_fin {w : FpWidth} {v : Word} {s : Bool} {u : Nat} (h : fpVal w v = .fin s u) :
    fpRat w v = some ((signedUnits s u : ℚ) / 2 ^ w.unitExp) := by
  rw [fpRat, h]

theorem fpRat_eq_some_iff {w : FpWidth} {v : Word} {q : ℚ} :
    fpRat w v = some q ↔ ∃ s u, fpVal w v = .fin s u ∧ q = (signedUnits s u : ℚ) / 2 ^ w.unitExp := by
  unfold fpRat
  cases fpVal w v <;> simp [eq_comm]

theorem fpValue_of_nan {w : FpWidth} {v : Word} {q : Bool} (h : fpVal w v = .nan q) : fpValue w v = none := by
  rw [fpValue, h]

theorem fpValue_of_inf {w : FpWidth} {v : Word} {s : Bool} (h : fpVal w v = .inf s) :
    fpValue w v = some (if s then ⊥ else ((⊤ : WithTop ℚ) : WithBot (WithTop ℚ))) := by
  rw [fpValue, h]

theorem fpValue_of_fin {w : FpWidth} {v : Word} {s : Bool} {u : Nat} (h : fpVal w v = .fin s u) :
    fpValue w v = some ((((signedUnits s u : ℚ) / 2 ^ w.unitExp : ℚ) : WithTop ℚ) : WithBot (WithTop ℚ)) := by
  rw [fpValue, h]

theorem fpValue_eq_some_cases {w : FpWidth} {v : Word} {p : WithBot (WithTop ℚ)} (h : fpValue w v = some p) :
    (∃ s, fpVal w v = .inf s ∧ p = if s then ⊥ else ((⊤ : WithTop ℚ) : WithBot (WithTop ℚ))) ∨
    (∃ s u, fpVal w v = .fin s u ∧
      p = (((signedUnits s u : ℚ) / 2 ^ w.unitExp : ℚ) : WithTop ℚ)) := by
  cases hv : fpVal w v with
  | nan q => simp [fpValue_of_nan hv] at h
  | inf s =>
    rw [fpValue_of_inf hv] at h
    exact Or.inl ⟨s, rfl, (Option.some.inj h).symm⟩
  | fin s u =>
    rw [fpValue_of_fin hv] at h
    exact Or.inr ⟨s, u, rfl, (Option.some.inj h).symm⟩

theorem fpValue_eq_none_iff (w : FpWidth) (v : Word) : fpValue w v = none ↔ fpIsNan w v = true := by
  rw [fpIsNan_iff]
  cases h : fpVal w v <;> simp [fpValue, h]

end Sys2Proof.Machine
end

section
/-! PROOFS. Comparison, classification, minimum, maximum and sign injection (spec/47_fp_numerics.md R655, R664 to R666, R671
and R672), which round nothing. -/

namespace Sys2Proof.Machine

/-! ## Comparison (R655, R671, R672) -/

theorem fp_compare_of_nan {w : FpWidth} {a b : Word} (h : fpIsNan w a = true ∨ fpIsNan w b = true) :
    fpEq w a b = false ∧ fpLt w a b = false := by
  rw [fpIsNan_iff, fpIsNan_iff] at h
  obtain ⟨q, hq⟩ | ⟨q, hq⟩ := h
  · simp only [fpEq, fpLt, hq, and_self]
  · cases ha : fpVal w a <;> simp only [fpEq, fpLt, ha, hq, and_self]

theorem fpEq_of_fin {w : FpWidth} {a b : Word} {sa sb : Bool} {ua ub : Nat} (ha : fpVal w a = .fin sa ua)
    (hb : fpVal w b = .fin sb ub) : fpEq w a b = true ↔ signedUnits sa ua = signedUnits sb ub := by
  simp only [fpEq, ha, hb, decide_eq_true_eq]

theorem fpLt_of_fin {w : FpWidth} {a b : Word} {sa sb : Bool} {ua ub : Nat} (ha : fpVal w a = .fin sa ua)
    (hb : fpVal w b = .fin sb ub) : fpLt w a b = true ↔ signedUnits sa ua < signedUnits sb ub := by
  simp only [fpLt, ha, hb, decide_eq_true_eq]

/-- Finite values stand as their signed units do. -/
theorem fin_values_eq_iff (w : FpWidth) (x y : Int) :
    ((((x : ℚ) / 2 ^ w.unitExp : ℚ) : WithTop ℚ) : WithBot (WithTop ℚ)) = (((y : ℚ) / 2 ^ w.unitExp : ℚ) : WithTop ℚ) ↔
      x = y := by
  have hunit : (2 : ℚ) ^ w.unitExp ≠ 0 := by positivity
  rw [WithBot.coe_inj, WithTop.coe_inj, div_left_inj' hunit, Int.cast_inj]

theorem fin_values_lt_iff (w : FpWidth) (x y : Int) :
    ((((x : ℚ) / 2 ^ w.unitExp : ℚ) : WithTop ℚ) : WithBot (WithTop ℚ)) < (((y : ℚ) / 2 ^ w.unitExp : ℚ) : WithTop ℚ) ↔
      x < y := by
  have hunit : (0 : ℚ) < 2 ^ w.unitExp := by positivity
  rw [WithBot.coe_lt_coe, WithTop.coe_lt_coe, div_lt_div_iff_of_pos_right hunit, Int.cast_lt]

section Values
variable {w : FpWidth} {a b : Word} {p q : WithBot (WithTop ℚ)}

theorem fpEq_iff_value (ha : fpValue w a = some p) (hb : fpValue w b = some q) : fpEq w a b = true ↔ p = q := by
  obtain ⟨sa, hva, rfl⟩ | ⟨sa, ua, hva, rfl⟩ := fpValue_eq_some_cases ha <;>
    obtain ⟨sb, hvb, rfl⟩ | ⟨sb, ub, hvb, rfl⟩ := fpValue_eq_some_cases hb
  case inl.inl => cases sa <;> cases sb <;> simp [fpEq, hva, hvb]
  case inl.inr => cases sa <;> simp [fpEq, hva, hvb]
  case inr.inl => cases sb <;> simp [fpEq, hva, hvb]
  case inr.inr => rw [fpEq_of_fin hva hvb, fin_values_eq_iff]

theorem fpLt_iff_value (ha : fpValue w a = some p) (hb : fpValue w b = some q) : fpLt w a b = true ↔ p < q := by
  obtain ⟨sa, hva, rfl⟩ | ⟨sa, ua, hva, rfl⟩ := fpValue_eq_some_cases ha <;>
    obtain ⟨sb, hvb, rfl⟩ | ⟨sb, ub, hvb, rfl⟩ := fpValue_eq_some_cases hb
  case inl.inl => cases sa <;> cases sb <;> simp [fpLt, hva, hvb]
  case inl.inr => cases sa <;> simp [fpLt, hva, hvb]
  case inr.inl =>
    cases sb with
    | false => simpa [fpLt, hva, hvb] using WithBot.coe_lt_coe.mpr (WithTop.coe_lt_top _)
    | true => simp [fpLt, hva, hvb]
  case inr.inr => rw [fpLt_of_fin hva hvb, fin_values_lt_iff]

theorem fpLe_iff_value (ha : fpValue w a = some p) (hb : fpValue w b = some q) : fpLe w a b = true ↔ p ≤ q := by
  rw [fpLe, Bool.or_eq_true, fpLt_iff_value ha hb, fpEq_iff_value ha hb, le_iff_lt_or_eq]

end Values

/-- Two operands that are no NaN are equal exactly when their encodings are, or both are zeros. -/
theorem fpEq_iff_select {w : FpWidth} {a b : Word} (ha : fpIsNan w a = false) (hb : fpIsNan w b = false) :
    fpEq w a b = true ↔ w.select a = w.select b ∨ fpMag w a = 0 ∧ fpMag w b = 0 := by
  have hinf : w.infMag ≠ 0 := (infMag_pos w).ne'
  rw [select_eq_iff]
  obtain ⟨sa, hva⟩ | ⟨sa, ua, hva⟩ := fpVal_cases_of_not_nan ha <;>
    obtain ⟨sb, hvb⟩ | ⟨sb, ub, hvb⟩ := fpVal_cases_of_not_nan hb
  case inl.inl =>
    obtain ⟨hma, rfl⟩ := fpVal_eq_inf_iff.mp hva
    obtain ⟨hmb, rfl⟩ := fpVal_eq_inf_iff.mp hvb
    simp [fpEq, hva, hvb, hma, hmb, hinf]
  case inl.inr =>
    have hma := (fpVal_eq_inf_iff.mp hva).1
    have hmb := (fpVal_eq_fin_iff.mp hvb).1
    simp [fpEq, hva, hvb, hma, hmb.ne', hinf]
  case inr.inl =>
    have hma := (fpVal_eq_fin_iff.mp hva).1
    have hmb := (fpVal_eq_inf_iff.mp hvb).1
    simp [fpEq, hva, hvb, hmb, hma.ne, hinf]
  case inr.inr =>
    obtain ⟨-, rfl, rfl⟩ := fpVal_eq_fin_iff.mp hva
    obtain ⟨-, rfl, rfl⟩ := fpVal_eq_fin_iff.mp hvb
    rw [fpEq_of_fin hva hvb, signedUnits_eq_iff, unitsOf_eq_zero_iff, unitsOf_eq_zero_iff,
      (unitsOf_strictMono w).injective.eq_iff]

/-- Settles O53: values on the extended line stand as the comparisons say, kind by kind; equal encodings have equal units because
units grow with the magnitude bits. -/
theorem fpCompareValues : Obligations.FpCompareValues := by
  intro w a b
  refine ⟨fun h => ?_, fun p q hp hq => ⟨fpEq_iff_value hp hq, fpLt_iff_value hp hq, fpLe_iff_value hp hq⟩,
    fpValue_eq_none_iff w a, fpEq_iff_select⟩
  obtain ⟨heq, hlt⟩ := fp_compare_of_nan h
  exact ⟨heq, hlt, by rw [fpLe, heq, hlt]; rfl⟩

/-! ## Classification (R666) -/

/-- R666 in the words of R641: the class bit by the biased exponent, the fraction and the sign. `top` is the highest exponent and
`half` the weight of the top fraction bit. -/
def classBitOf (top half expo frac : Nat) (neg : Bool) : Nat :=
  if expo = top then
    if frac = 0 then if neg then 0 else 7
    else if frac < half then 8 else 9
  else if expo = 0 then
    if frac = 0 then if neg then 3 else 4
    else if neg then 2 else 5
  else if neg then 1 else 6

theorem fpClassBit_eq (w : FpWidth) (a : Word) : fpClassBit w a =
    classBitOf (2 ^ w.expBits - 1) (2 ^ (w.fracBits - 1)) (fpMag w a / 2 ^ w.fracBits) (fpMag w a % 2 ^ w.fracBits)
      (fpSign w a) := by
  unfold fpClassBit classBitOf
  cases hv : fpVal w a with
  | nan q =>
    obtain ⟨hlt, rfl⟩ := fpVal_eq_nan_iff.mp hv
    obtain ⟨htop, hmag⟩ := fpMag_of_top hlt.le
    have hfrac : fpMag w a % 2 ^ w.fracBits ≠ 0 := by omega
    rw [if_pos htop, if_neg hfrac]
    split_ifs with hquiet
    · rw [decide_eq_false (by omega)]
    · rw [decide_eq_true (by omega)]
  | inf s =>
    obtain ⟨hmag, rfl⟩ := fpVal_eq_inf_iff.mp hv
    obtain ⟨htop, hsum⟩ := fpMag_of_top hmag.ge
    rw [if_pos htop, if_pos (by omega)]
    cases fpSign w a <;> rfl
  | fin s u =>
    obtain ⟨hlt, rfl, rfl⟩ := fpVal_eq_fin_iff.mp hv
    rw [if_neg ((fpMag_lt_infMag_iff w a).mp hlt).ne]
    simp only [unitsOf_eq_zero_iff, unitsOf_lt_iff]
    rcases Nat.lt_or_ge (fpMag w a) (2 ^ w.fracBits) with hsub | hnormal
    · rw [Nat.div_eq_of_lt hsub, Nat.mod_eq_of_lt hsub, if_pos hsub, if_pos rfl]
    · have hexp : fpMag w a / 2 ^ w.fracBits ≠ 0 := (Nat.div_pos hnormal (by positivity)).ne'
      have hpos : fpMag w a ≠ 0 := (lt_of_lt_of_le (by positivity) hnormal).ne'
      rw [if_neg hpos, if_neg hnormal.not_gt, if_neg hexp]

/-- The rows of R666. -/
theorem classBitOf_rows {top half expo frac : Nat} (neg : Bool) (htop : 0 < top) (hhalf : 0 < half) (hexpo : expo ≤ top) :
    let k := classBitOf top half expo frac neg
    (k = 0 ↔ expo = top ∧ frac = 0 ∧ neg = true) ∧
    (k = 1 ↔ 0 < expo ∧ expo < top ∧ neg = true) ∧
    (k = 2 ↔ expo = 0 ∧ frac ≠ 0 ∧ neg = true) ∧
    (k = 3 ↔ expo = 0 ∧ frac = 0 ∧ neg = true) ∧
    (k = 4 ↔ expo = 0 ∧ frac = 0 ∧ neg = false) ∧
    (k = 5 ↔ expo = 0 ∧ frac ≠ 0 ∧ neg = false) ∧
    (k = 6 ↔ 0 < expo ∧ expo < top ∧ neg = false) ∧
    (k = 7 ↔ expo = top ∧ frac = 0 ∧ neg = false) ∧
    (k = 8 ↔ expo = top ∧ 0 < frac ∧ frac < half) ∧
    (k = 9 ↔ expo = top ∧ half ≤ frac) := by
  simp only [classBitOf]
  obtain rfl | hlow := hexpo.eq_or_lt
  · rcases Nat.eq_zero_or_pos frac with rfl | hfrac
    · cases neg <;> simp [htop.ne', hhalf.ne']
    · rcases Nat.lt_or_ge frac half with h | h
      · simp [htop.ne', hfrac, hfrac.ne', h, h.not_ge]
      · simp [htop.ne', hfrac.ne', h, h.not_gt]
  · rcases Nat.eq_zero_or_pos expo with rfl | hpos
    · by_cases hfrac : frac = 0 <;> cases neg <;> simp [htop.ne, hfrac]
    · cases neg <;> simp [hlow.ne, hlow, hpos, hpos.ne']

theorem fpClassBit_lt (w : FpWidth) (a : Word) : fpClassBit w a < 10 := by
  rw [fpClassBit_eq, classBitOf]
  split_ifs <;> decide

theorem fpClass_eq_shiftLeft (w : FpWidth) (a : Word) : fpClass w a = 1#64 <<< fpClassBit w a :=
  BitVec.eq_of_toNat_eq (by rw [fpClass, BitVec.toNat_ofNat, BitVec.toNat_shiftLeft, Nat.shiftLeft_eq]; simp)

/-- R666: `FpClass` has the class bit set and no other. -/
theorem fpClass_eq_iff (w : FpWidth) (a : Word) {k : Nat} (hk : k < 10) : fpClass w a = 1#64 <<< k ↔ fpClassBit w a = k := by
  have hbits : ∀ i < 10, ∀ j < 10, 1#64 <<< i = 1#64 <<< j ↔ i = j := by decide
  rw [fpClass_eq_shiftLeft]
  exact hbits _ (fpClassBit_lt w a) k hk

/-- Settles O54: the class bit read off the exponent, the fraction and the sign. -/
theorem fpClassBits : Obligations.FpClassBits := by
  intro w a c expo frac top
  have htop : 0 < top := by cases w <;> decide
  have hbit {k : Nat} (hk : k < 10) :
      c = 1#64 <<< k ↔ classBitOf top (2 ^ (w.fracBits - 1)) expo frac (fpSign w a) = k := by
    rw [← fpClassBit_eq]
    exact fpClass_eq_iff w a hk
  refine ⟨⟨_, fpClassBit_lt w a, fpClass_eq_shiftLeft w a⟩, ?_⟩
  simp only [hbit (show 0 < 10 by decide), hbit (show 1 < 10 by decide), hbit (show 2 < 10 by decide),
    hbit (show 3 < 10 by decide), hbit (show 4 < 10 by decide), hbit (show 5 < 10 by decide),
    hbit (show 6 < 10 by decide), hbit (show 7 < 10 by decide), hbit (show 8 < 10 by decide),
    hbit (show 9 < 10 by decide)]
  exact classBitOf_rows (fpSign w a) htop (by positivity) (exponent_le w a)

/-! ## Minimum and maximum (R664) -/

section MinMax
variable {w : FpWidth} {a b : Word}

theorem fpIsNan_of_nan {q : Bool} (h : fpVal w a = .nan q) : fpIsNan w a = true := (fpIsNan_iff w a).mpr ⟨q, h⟩

theorem fpIsNan_of_value {x : WithBot (WithTop ℚ)} (h : fpValue w a = some x) : fpIsNan w a = false := by
  rw [Bool.eq_false_iff, Ne, ← fpValue_eq_none_iff, h]
  exact Option.some_ne_none x

theorem fpMinMax_of_nans (ha : fpIsNan w a = true) (hb : fpIsNan w b = true) :
    fpMin w a b = cnan w ∧ fpMax w a b = cnan w := by
  simp only [fpMin, fpMax, ha, hb, if_true, and_self]

theorem fpMinMax_of_nan_left (ha : fpIsNan w a = true) (hb : fpIsNan w b = false) :
    fpMin w a b = fpStored w b ∧ fpMax w a b = fpStored w b := by
  simp [fpMin, fpMax, ha, hb, fpCopy_eq_fpStored]

theorem fpMinMax_of_nan_right (ha : fpIsNan w a = false) (hb : fpIsNan w b = true) :
    fpMin w a b = fpStored w a ∧ fpMax w a b = fpStored w a := by
  simp [fpMin, fpMax, ha, hb, fpCopy_eq_fpStored]

theorem fpMinMax_of_lt (ha : fpIsNan w a = false) (hb : fpIsNan w b = false) (h : fpLt w a b = true) :
    fpMin w a b = fpStored w a ∧ fpMax w a b = fpStored w b := by
  simp [fpMin, fpMax, ha, hb, h, fpCopy_eq_fpStored]

theorem fpMinMax_of_gt (ha : fpIsNan w a = false) (hb : fpIsNan w b = false) (hab : fpLt w a b = false)
    (hba : fpLt w b a = true) : fpMin w a b = fpStored w b ∧ fpMax w a b = fpStored w a := by
  simp [fpMin, fpMax, ha, hb, hab, hba, fpCopy_eq_fpStored]

/-- Of operands that stand neither way the one with the sign bit counts as less. -/
theorem fpMinMax_of_not_lt (ha : fpIsNan w a = false) (hb : fpIsNan w b = false) (hab : fpLt w a b = false)
    (hba : fpLt w b a = false) :
    fpMin w a b = (if fpSign w a then fpStored w a else fpStored w b) ∧
    fpMax w a b = (if fpSign w a then fpStored w b else fpStored w a) := by
  simp [fpMin, fpMax, ha, hb, hab, hba, fpCopy_eq_fpStored]

theorem fpMinMax_of_zeros {sa sb : Bool} (ha : fpVal w a = .fin sa 0) (hb : fpVal w b = .fin sb 0) :
    fpMin w a b = (if sa then fpStored w a else fpStored w b) ∧
    fpMax w a b = (if sa then fpStored w b else fpStored w a) := by
  have hsign : fpSign w a = sa := (fpVal_eq_fin_iff.mp ha).2.1
  rw [← hsign]
  refine fpMinMax_of_not_lt (fpIsNan_of_value (fpValue_of_fin ha)) (fpIsNan_of_value (fpValue_of_fin hb)) ?_ ?_
  · cases sa <;> cases sb <;> simp [fpLt, ha, hb, signedUnits]
  · cases sa <;> cases sb <;> simp [fpLt, ha, hb, signedUnits]

/-- Two operands of one encoding have that encoding as minimum and as maximum. -/
theorem fpMinMax_of_fpStored_eq {x : WithBot (WithTop ℚ)} (ha : fpValue w a = some x) (h : fpStored w a = fpStored w b) :
    fpMin w a b = fpStored w a ∧ fpMax w a b = fpStored w a := by
  have hselect : w.select a = w.select b := by
    rwa [← fpCopy_eq_fpStored, ← fpCopy_eq_fpStored, fpCopy_eq_fpCopy_iff] at h
  have hb : fpValue w b = some x := by rw [fpValue, ← fpVal_congr hselect, ← fpValue, ha]
  have hab : fpLt w a b = false := Bool.eq_false_iff.mpr fun hlt => lt_irrefl x ((fpLt_iff_value ha hb).mp hlt)
  have hba : fpLt w b a = false := Bool.eq_false_iff.mpr fun hlt => lt_irrefl x ((fpLt_iff_value hb ha).mp hlt)
  simpa [← h] using fpMinMax_of_not_lt (fpIsNan_of_value ha) (fpIsNan_of_value hb) hab hba

end MinMax

/-! ## Sign injection (R665) -/

theorem fpOfMag_word_eq (neg : Bool) (a : Word) :
    fpOfMag .word neg (fpMag .word a) = (BitVec.ofBool neg ++ a.extractLsb' 0 31).setWidth 64 := by
  apply BitVec.eq_of_toNat_eq
  rw [fpOfMag_toNat (fpMag_lt_signWeight .word a), fpMag_word, BitVec.toNat_setWidth_of_le (by decide), BitVec.toNat_append,
    ← Nat.shiftLeft_add_eq_or_of_lt (BitVec.isLt _)]
  cases neg <;> rfl

theorem fpOfMag_double_eq (neg : Bool) (a : Word) :
    fpOfMag .double neg (fpMag .double a) = BitVec.ofBool neg ++ a.extractLsb' 0 63 := by
  apply BitVec.eq_of_toNat_eq
  rw [fpOfMag_toNat (fpMag_lt_signWeight .double a), fpMag_double, BitVec.toNat_append,
    ← Nat.shiftLeft_add_eq_or_of_lt (BitVec.isLt _)]
  cases neg <;> rfl

theorem extractLsb'_one (v : Word) (i : Nat) : v.extractLsb' i 1 = BitVec.ofBool (v.getLsbD i) := by
  ext j hj
  obtain rfl : j = 0 := by omega
  simp

/-- Settles O59: both functions by the order of the operands, and each sign injection as a sign above magnitude bits. -/
theorem fpMinMaxAndSignInjection : Obligations.FpMinMaxAndSignInjection := by
  refine ⟨fun w a b => ⟨?nans, ?nan_left, ?nan_right, ?ordered, ?zeros, ?zeros', ?same⟩, fun a b => ?sign⟩
  case nans => exact fun s t ha hb => fpMinMax_of_nans (fpIsNan_of_nan ha) (fpIsNan_of_nan hb)
  case nan_left => exact fun t y ha hb => fpMinMax_of_nan_left (fpIsNan_of_nan ha) (fpIsNan_of_value hb)
  case nan_right => exact fun t x ha hb => fpMinMax_of_nan_right (fpIsNan_of_value ha) (fpIsNan_of_nan hb)
  case ordered =>
    intro x y ha hb
    have hna := fpIsNan_of_value ha
    have hnb := fpIsNan_of_value hb
    refine ⟨fun h => fpMinMax_of_lt hna hnb ((fpLt_iff_value ha hb).mpr h), fun h => fpMinMax_of_gt hna hnb ?_ ?_⟩
    · rw [Bool.eq_false_iff, Ne, fpLt_iff_value ha hb]
      exact h.not_gt
    · exact (fpLt_iff_value hb ha).mpr h
  case zeros => exact fun ha hb => fpMinMax_of_zeros ha hb
  case zeros' => exact fun ha hb => fpMinMax_of_zeros ha hb
  case same => exact fun x ha h => fpMinMax_of_fpStored_eq ha h
  case sign =>
    simp only [fpSgnj, fpSgnjn, fpSgnjx, fpOfMag_word_eq, fpOfMag_double_eq, extractLsb'_one, fpSign_word, fpSign_double,
      BitVec.not_ofBool, BitVec.ofBool_xor_ofBool, and_self]

end Sys2Proof.Machine
end

section
/-! PROOFS. The arithmetic of spec/47_fp_numerics.md (R650, R660 to R662, R667): the special operands case by case, and an
exact value in units for the one rounding of Sys2Proof/Laws/Rounding.lean. -/

namespace Sys2Proof.Machine

/-! ## Exact values in units (R641) -/

theorem cast_signedUnits (s : Bool) (u : Nat) : (signedUnits s u : ℝ) = signFactor s * u := by
  cases s <;> simp [signedUnits, signFactor]

theorem signFactor_xor (s t : Bool) : signFactor (s ^^ t) = signFactor s * signFactor t := by
  cases s <;> cases t <;> simp [signFactor]

theorem signFactor_div_signFactor (s t : Bool) : signFactor s / signFactor t = signFactor (s ^^ t) := by
  cases s <;> cases t <;> simp [signFactor]

theorem signedUnits_mul (s t : Bool) (m n : Nat) : signedUnits s m * signedUnits t n = signedUnits (s ^^ t) (m * n) := by
  cases s <;> cases t <;> simp [signedUnits]

theorem fin_value_eq_zero_iff (w : FpWidth) (s : Bool) (u : Nat) : (signedUnits s u : ℚ) / 2 ^ w.unitExp = 0 ↔ u = 0 := by
  have hunit : (2 : ℚ) ^ w.unitExp ≠ 0 := by positivity
  rw [div_eq_zero_iff, or_iff_left hunit, Int.cast_eq_zero, signedUnits_eq_zero_iff]

/-- R650, R667: `roundSigned` gives the zero of an exact cancellation and rounds every other value. -/
theorem roundSigned_value (w : FpWidth) (rm : Round) {r : Int} {den : Nat} {x : ℚ} (hden : 0 < den)
    (hx : x = (r : ℚ) / den / 2 ^ w.unitExp) :
    (x = 0 → IsVal w (roundSigned w rm r den) (.fin (decide (rm = .rdn)) 0)) ∧
    (x ≠ 0 → Rounds w rm (x : ℝ) (roundSigned w rm r den)) := by
  have hzero : x = 0 ↔ r = 0 := by
    have hunit : (2 : ℚ) ^ w.unitExp ≠ 0 := by positivity
    have hdenQ : (den : ℚ) ≠ 0 := Nat.cast_ne_zero.mpr hden.ne'
    simp [hx, hunit, hdenQ]
  constructor
  · intro h
    rw [roundSigned, if_pos (hzero.mp h)]
    exact isVal_fpZero w _
  · intro h
    have hround := roundSigned_rounds w rm (fun hr => h (hzero.mpr hr)) hden
    rw [hx]
    push_cast
    exact hround

/-! ## Finite encodings and rounding down (R644) -/

theorem fStar_zero (w : FpWidth) : FStar w 0 :=
  fStar_units (q := 0) (n := 0) ⟨Nat.zero_le _, Or.inl rfl⟩ (by simp)

/-- Every finite encoding has a value of `F*`, of a magnitude up to `MAXFIN`. -/
theorem fStar_of_fpRat {w : FpWidth} {v : Word} {x : ℚ} (h : fpRat w v = some x) :
    FStar w x ∧ |(x : ℝ)| ≤ (w.maxUnits : ℝ) / 2 ^ w.unitExp := by
  obtain ⟨s, u, hv, rfl⟩ := fpRat_eq_some_iff.mp h
  obtain ⟨hfin, -, rfl⟩ := fpVal_eq_fin_iff.mp hv
  obtain ⟨q, n, hmag, -, hplaced⟩ := exists_placed w (fpMag w v)
  rw [hmag] at hfin ⊢
  rw [unitsOf_placed hplaced]
  have habs : |(((signedUnits s (n * 2 ^ q) : ℚ) / 2 ^ w.unitExp : ℚ) : ℝ)| = ((n * 2 ^ q : ℕ) : ℝ) / 2 ^ w.unitExp := by
    push_cast [cast_signedUnits]
    rw [abs_div, abs_mul, abs_of_pos (unit_pos w)]
    cases s <;> simp [signFactor]
  refine ⟨fStar_units hplaced habs, ?_⟩
  rw [habs, div_le_div_iff_of_pos_right (unit_pos w), Nat.cast_le]
  exact (bits_lt_infMag_iff hplaced).mp hfin

theorem fpRat_of_isVal_zero {w : FpWidth} {v : Word} {s : Bool} (h : IsVal w v (.fin s 0)) : fpRat w v = some 0 := by
  rw [fpRat_of_fin h.1, (fin_value_eq_zero_iff w s 0).mpr rfl]

theorem eq_of_encodes {w : FpWidth} {v : Word} {y : ℝ} {z : ℚ} (h : Encodes w v y) (hz : fpRat w v = some z) :
    (z : ℝ) = y := by
  obtain ⟨q, hq, rfl, -⟩ := h
  rw [hq] at hz
  rw [Option.some.inj hz]

/-- R644: a finite result of rounding down is the greatest finite value up to the exact one. -/
theorem greatest_of_rounds_rdn {w : FpWidth} {r : ℝ} {v : Word} {z : ℚ} (h : Rounds w .rdn r v) (hz : fpRat w v = some z) :
    (z : ℝ) ≤ r ∧ ∀ (c : Word) (x : ℚ), fpRat w c = some x → (x : ℝ) ≤ r → (x : ℝ) ≤ z := by
  obtain ⟨y, ⟨lo, hi, ⟨⟨-, hlo⟩, hgreatest⟩, -, -, (rfl : y = lo)⟩, hresult⟩ := h
  obtain ⟨M, hM⟩ : ∃ M, IsMaxFin w M := ⟨_, rfl⟩
  obtain ⟨hover, hzero, hfinite⟩ := hresult M hM (decide (r < 0)) (by simp)
  have hexact (hzy : (z : ℝ) = y) :
      (z : ℝ) ≤ r ∧ ∀ (c : Word) (x : ℚ), fpRat w c = some x → (x : ℝ) ≤ r → (x : ℝ) ≤ z := by
    rw [hzy]
    exact ⟨hlo, fun c x hc hx => hgreatest ⟨(fStar_of_fpRat hc).1, hx⟩⟩
  rcases lt_or_ge M |y| with hbig | hsmall
  · have hov := hover hbig
    rcases lt_or_ge r 0 with hr | hr
    · rw [decide_eq_true hr] at hov
      simp [fpRat, hov.1] at hz
    · rw [decide_eq_false hr.not_gt] at hov
      have hzM : (z : ℝ) = M := eq_of_encodes hov hz
      have hy : 0 ≤ y := hgreatest ⟨fStar_zero w, hr⟩
      rw [abs_of_nonneg hy] at hbig
      refine ⟨by linarith, fun c x hc _ => ?_⟩
      rw [hzM, isMaxFin_units hM]
      exact (le_abs_self _).trans (fStar_of_fpRat hc).2
  · by_cases hy : y = 0
    · have h0 := fpRat_of_isVal_zero (hzero hy)
      rw [h0] at hz
      exact hexact (by rw [hy, ← Option.some.inj hz, Rat.cast_zero])
    · exact hexact (eq_of_encodes (hfinite hsmall hy) hz)

/-! ## Addition and subtraction (R650, R660) -/

section Add
variable {w : FpWidth} {rm : Round} {a b : Word} {sa sb : Bool} {ua ub : Nat}

theorem fpAdd_of_nan {t : Bool} (h : fpVal w a = .nan t ∨ fpVal w b = .nan t) : fpAdd w rm a b = cnan w := by
  obtain ha | hb := h
  · simp only [fpAdd, ha]
  · cases ha : fpVal w a <;> simp only [fpAdd, ha, hb]

theorem fpAdd_of_infs (ha : fpVal w a = .inf sa) (hb : fpVal w b = .inf sb) :
    fpAdd w rm a b = if sa = sb then fpInf w sa else cnan w := by
  simp only [fpAdd, ha, hb]

theorem fpAdd_of_inf_fin (ha : fpVal w a = .inf sa) (hb : fpVal w b = .fin sb ub) : fpAdd w rm a b = fpInf w sa := by
  simp only [fpAdd, ha, hb]

theorem fpAdd_of_fin_inf (ha : fpVal w a = .fin sa ua) (hb : fpVal w b = .inf sb) : fpAdd w rm a b = fpInf w sb := by
  simp only [fpAdd, ha, hb]

theorem fpAdd_of_zeros (ha : fpVal w a = .fin sa 0) (hb : fpVal w b = .fin sb 0) :
    fpAdd w rm a b = fpZero w (if sa = sb then sa else decide (rm = .rdn)) := by
  simp only [fpAdd, ha, hb, and_self, if_true, zeroSumSign]

theorem fpAdd_of_fins (ha : fpVal w a = .fin sa ua) (hb : fpVal w b = .fin sb ub) (h : ¬ (ua = 0 ∧ ub = 0)) :
    fpAdd w rm a b = roundSigned w rm (signedUnits sa ua + signedUnits sb ub) 1 := by
  simp only [fpAdd, ha, hb, if_neg h]

theorem fpAdd_comm (w : FpWidth) (rm : Round) (a b : Word) : fpAdd w rm a b = fpAdd w rm b a := by
  cases ha : fpVal w a with
  | nan q => rw [fpAdd_of_nan (Or.inl ha), fpAdd_of_nan (Or.inr ha)]
  | inf sa =>
    cases hb : fpVal w b with
    | nan q => rw [fpAdd_of_nan (Or.inr hb), fpAdd_of_nan (Or.inl hb)]
    | inf sb => rw [fpAdd_of_infs ha hb, fpAdd_of_infs hb ha]; cases sa <;> cases sb <;> rfl
    | fin sb ub => rw [fpAdd_of_inf_fin ha hb, fpAdd_of_fin_inf hb ha]
  | fin sa ua =>
    cases hb : fpVal w b with
    | nan q => rw [fpAdd_of_nan (Or.inr hb), fpAdd_of_nan (Or.inl hb)]
    | inf sb => rw [fpAdd_of_fin_inf ha hb, fpAdd_of_inf_fin hb ha]
    | fin sb ub =>
      by_cases h : ua = 0 ∧ ub = 0
      · obtain ⟨rfl, rfl⟩ := h
        rw [fpAdd_of_zeros ha hb, fpAdd_of_zeros hb ha]
        cases sa <;> cases sb <;> rfl
      · rw [fpAdd_of_fins ha hb h, fpAdd_of_fins hb ha (fun h' => h h'.symm), Int.add_comm]

theorem fpAdd_congr_right {c : Word} (h : w.select b = w.select c) : fpAdd w rm a b = fpAdd w rm a c := by
  rw [fpAdd, fpAdd, fpVal_congr h]

variable {p q : ℚ}

/-- Two finite operands that are not both zeros have their exact sum rounded. -/
theorem fpAdd_value (ha : fpRat w a = some p) (hb : fpRat w b = some q) (h : ¬ (p = 0 ∧ q = 0)) :
    (p + q = 0 → IsVal w (fpAdd w rm a b) (.fin (decide (rm = .rdn)) 0)) ∧
    (p + q ≠ 0 → Rounds w rm ((p : ℝ) + q) (fpAdd w rm a b)) := by
  obtain ⟨sa, ua, hva, rfl⟩ := fpRat_eq_some_iff.mp ha
  obtain ⟨sb, ub, hvb, rfl⟩ := fpRat_eq_some_iff.mp hb
  rw [fin_value_eq_zero_iff, fin_value_eq_zero_iff] at h
  rw [fpAdd_of_fins hva hvb h, ← Rat.cast_add]
  refine roundSigned_value w rm one_pos ?_
  push_cast
  ring

/-- Two finite operands of sum 0 have a zero as their sum. -/
theorem fpRat_fpAdd_of_sum_zero (ha : fpRat w a = some p) (hb : fpRat w b = some q) (h : p + q = 0) :
    fpRat w (fpAdd w rm a b) = some 0 := by
  by_cases hz : p = 0 ∧ q = 0
  · obtain ⟨sa, ua, hva, rfl⟩ := fpRat_eq_some_iff.mp ha
    obtain ⟨sb, ub, hvb, rfl⟩ := fpRat_eq_some_iff.mp hb
    rw [fin_value_eq_zero_iff, fin_value_eq_zero_iff] at hz
    obtain ⟨rfl, rfl⟩ := hz
    rw [fpAdd_of_zeros hva hvb]
    exact fpRat_of_isVal_zero (isVal_fpZero w _)
  · exact fpRat_of_isVal_zero ((fpAdd_value ha hb hz).1 h)

/-- R644, R650: under RDN a finite sum is the greatest finite value up to the exact sum. -/
theorem greatest_fpAdd_rdn {r : ℚ} (ha : fpRat w a = some p) (hb : fpRat w b = some q)
    (hr : fpRat w (fpAdd w .rdn a b) = some r) :
    r ≤ p + q ∧ ∀ (c : Word) (x : ℚ), fpRat w c = some x → x ≤ p + q → x ≤ r := by
  by_cases hsum : p + q = 0
  · rw [fpRat_fpAdd_of_sum_zero ha hb hsum] at hr
    obtain rfl := Option.some.inj hr
    rw [hsum]
    exact ⟨le_rfl, fun _ _ _ hx => hx⟩
  · have hround := (fpAdd_value (rm := .rdn) ha hb fun hz => hsum (by rw [hz.1, hz.2, add_zero])).2 hsum
    exact_mod_cast greatest_of_rounds_rdn hround hr

end Add

/-- Settles O56: the sum by the kinds of the operands, its rounding by `roundSigned_rounds`; under RDN the result is the lower
neighbour in `F*`, or `MAXFIN`, which no finite value exceeds. -/
theorem fpAddAndSub : Obligations.FpAddAndSub := by
  intro w rm a b
  refine ⟨?nan, ?infs, ?inf_fin, ?fin_inf, ?zeros, ?values, fpAdd_comm w rm a b, ?sub, ?down, by decide⟩
  case nan => exact fun ⟨t, h⟩ => fpAdd_of_nan h
  case infs =>
    intro sa sb ha hb
    rw [fpAdd_of_infs ha hb]
    exact ⟨fun h => by rw [if_pos h]; exact isVal_fpInf w sa, fun h => if_neg h⟩
  case inf_fin => exact fun sa sb n ha hb => fpAdd_of_inf_fin (rm := rm) ha hb ▸ isVal_fpInf w sa
  case fin_inf => exact fun sa sb n ha hb => fpAdd_of_fin_inf (rm := rm) ha hb ▸ isVal_fpInf w sb
  case zeros => exact fun sa sb ha hb => fpAdd_of_zeros (rm := rm) ha hb ▸ isVal_fpZero w _
  case values =>
    intro p q ha hb
    refine ⟨fun hp => (fpAdd_value ha hb fun hz => hp hz.1).1, fun hsum => (fpAdd_value ha hb fun hz => hsum ?_).2 hsum⟩
    rw [hz.1, hz.2, add_zero]
  case sub => exact fpAdd_congr_right (select_flipSign w b).symm
  case down => exact fun p q r ha hb hr => greatest_fpAdd_rdn ha hb hr

/-! ## Multiplication and division (R661, R662) -/

section MulDiv
variable {w : FpWidth} {rm : Round} {a b : Word} {sa sb : Bool} {ua ub : Nat}

theorem fpMulDiv_of_nan {t : Bool} (h : fpVal w a = .nan t ∨ fpVal w b = .nan t) :
    fpMul w rm a b = cnan w ∧ fpDiv w rm a b = cnan w := by
  obtain ha | hb := h
  · simp only [fpMul, fpDiv, ha, and_self]
  · cases ha : fpVal w a <;> simp only [fpMul, fpDiv, ha, hb, and_self]

theorem fpMulDiv_of_infs (ha : fpVal w a = .inf sa) (hb : fpVal w b = .inf sb) :
    fpMul w rm a b = fpInf w (sa ^^ sb) ∧ fpDiv w rm a b = cnan w := by
  simp only [fpMul, fpDiv, ha, hb, and_self]

theorem fpMulDiv_of_inf_fin (ha : fpVal w a = .inf sa) (hb : fpVal w b = .fin sb ub) :
    fpMul w rm a b = (if ub = 0 then cnan w else fpInf w (sa ^^ sb)) ∧ fpDiv w rm a b = fpInf w (sa ^^ sb) := by
  simp only [fpMul, fpDiv, ha, hb, and_self]

theorem fpMulDiv_of_fin_inf (ha : fpVal w a = .fin sa ua) (hb : fpVal w b = .inf sb) :
    fpMul w rm a b = (if ua = 0 then cnan w else fpInf w (sa ^^ sb)) ∧ fpDiv w rm a b = fpZero w (sa ^^ sb) := by
  simp only [fpMul, fpDiv, ha, hb, and_self]

theorem fpMul_of_fins (ha : fpVal w a = .fin sa ua) (hb : fpVal w b = .fin sb ub) :
    fpMul w rm a b =
      if ua = 0 ∨ ub = 0 then fpZero w (sa ^^ sb) else roundRatio w rm (sa ^^ sb) (ua * ub) (2 ^ w.unitExp) := by
  simp only [fpMul, ha, hb]

theorem fpDiv_of_fins (ha : fpVal w a = .fin sa ua) (hb : fpVal w b = .fin sb ub) :
    fpDiv w rm a b =
      if ub = 0 then if ua = 0 then cnan w else fpInf w (sa ^^ sb)
      else if ua = 0 then fpZero w (sa ^^ sb) else roundRatio w rm (sa ^^ sb) (ua * 2 ^ w.unitExp) ub := by
  simp only [fpDiv, ha, hb]

/-- The exact product of two finite values, in units. -/
theorem product_units (w : FpWidth) (sa sb : Bool) (ua ub : Nat) :
    signFactor (sa ^^ sb) * (((ua * ub : ℕ) : ℝ) / (2 ^ w.unitExp : ℕ) / 2 ^ w.unitExp) =
      (((signedUnits sa ua : ℚ) / 2 ^ w.unitExp : ℚ) : ℝ) * (((signedUnits sb ub : ℚ) / 2 ^ w.unitExp : ℚ) : ℝ) := by
  push_cast [cast_signedUnits, signFactor_xor]
  ring

/-- The exact quotient of two finite values, in units. -/
theorem quotient_units (w : FpWidth) (sa sb : Bool) (ua ub : Nat) :
    signFactor (sa ^^ sb) * (((ua * 2 ^ w.unitExp : ℕ) : ℝ) / ub / 2 ^ w.unitExp) =
      (((signedUnits sa ua : ℚ) / 2 ^ w.unitExp : ℚ) : ℝ) / (((signedUnits sb ub : ℚ) / 2 ^ w.unitExp : ℚ) : ℝ) := by
  have hunit := (unit_pos w).ne'
  rw [← signFactor_div_signFactor]
  push_cast [cast_signedUnits]
  rw [div_div_div_cancel_right₀ hunit, mul_div_mul_comm]
  field_simp

end MulDiv

/-- Settles O57: the product and the quotient by the kinds of the operands, and of two nonzero numbers as a ratio of units. -/
theorem fpMulAndDiv : Obligations.FpMulAndDiv := by
  intro w rm a b s
  refine ⟨?nan, ?infs, ?inf_fin, ?fin_inf, ?values⟩
  case nan => exact fun ⟨t, h⟩ => fpMulDiv_of_nan h
  case infs =>
    intro sa sb ha hb
    obtain ⟨hmul, hdiv⟩ := fpMulDiv_of_infs (rm := rm) ha hb
    have hs : s = (sa ^^ sb) := by rw [← sign_of_fpVal_inf ha, ← sign_of_fpVal_inf hb]
    rw [hmul, hs]
    exact ⟨isVal_fpInf w _, hdiv⟩
  case inf_fin =>
    intro sa sb n ha hb
    obtain ⟨hmul, hdiv⟩ := fpMulDiv_of_inf_fin (rm := rm) ha hb
    have hs : s = (sa ^^ sb) := by rw [← sign_of_fpVal_inf ha, ← sign_of_fpVal_fin hb]
    rw [hmul, hdiv, hs]
    exact ⟨fun h => if_pos h, fun h => by rw [if_neg h]; exact isVal_fpInf w _, isVal_fpInf w _⟩
  case fin_inf =>
    intro sa sb n ha hb
    obtain ⟨hmul, hdiv⟩ := fpMulDiv_of_fin_inf (rm := rm) ha hb
    have hs : s = (sa ^^ sb) := by rw [← sign_of_fpVal_fin ha, ← sign_of_fpVal_inf hb]
    rw [hmul, hdiv, hs]
    exact ⟨fun h => if_pos h, fun h => by rw [if_neg h]; exact isVal_fpInf w _, isVal_fpZero w _⟩
  case values =>
    intro p q hp hq
    obtain ⟨sa, ua, ha, rfl⟩ := fpRat_eq_some_iff.mp hp
    obtain ⟨sb, ub, hb, rfl⟩ := fpRat_eq_some_iff.mp hq
    have hs : s = (sa ^^ sb) := by rw [← sign_of_fpVal_fin ha, ← sign_of_fpVal_fin hb]
    rw [Ne, Ne, fin_value_eq_zero_iff, fin_value_eq_zero_iff, fpMul_of_fins ha hb, fpDiv_of_fins ha hb, hs,
      ← product_units, ← quotient_units]
    refine ⟨fun h => ?_, fun hua hub => ?_, fun hua hub => ?_, fun hua hub => ?_, fun hua hub => ?_, fun hua hub => ?_⟩
    · rw [if_pos h]
      exact isVal_fpZero w _
    · rw [if_neg (not_or.mpr ⟨hua, hub⟩)]
      exact roundRatio_rounds w rm _ (Nat.mul_pos (Nat.pos_of_ne_zero hua) (Nat.pos_of_ne_zero hub)) (by positivity)
    · rw [if_pos hub, if_pos hua]
    · rw [if_pos hub, if_neg hua]
      exact isVal_fpInf w _
    · rw [if_neg hub, if_pos hua]
      exact isVal_fpZero w _
    · rw [if_neg hub, if_neg hua]
      exact roundRatio_rounds w rm _ (Nat.mul_pos (Nat.pos_of_ne_zero hua) (by positivity)) (Nat.pos_of_ne_zero hub)

/-! ## The fused multiply-add (R667) -/

/-- R667: an infinite product, of operands with the signs `sa` and `sb`: two infinities, or an infinity and a nonzero number. -/
def IsInfProduct (w : FpWidth) (a b : Word) (sa sb : Bool) : Prop :=
  fpVal w a = .inf sa ∧ fpVal w b = .inf sb ∨
  (∃ n, n ≠ 0 ∧ fpVal w a = .inf sa ∧ fpVal w b = .fin sb n) ∨
  ∃ n, n ≠ 0 ∧ fpVal w a = .fin sa n ∧ fpVal w b = .inf sb

section Fma
variable {w : FpWidth} {rm : Round} {a b c : Word} {sa sb sc : Bool} {ua ub uc : Nat}

theorem fma_of_nan {t : Bool} (h : fpVal w a = .nan t ∨ fpVal w b = .nan t ∨ fpVal w c = .nan t) :
    fma w rm a b c = cnan w := by
  obtain ha | hb | hc := h
  · simp only [fma, ha]
  · cases ha : fpVal w a <;> simp only [fma, ha, hb]
  · cases ha : fpVal w a <;> cases hb : fpVal w b <;> simp only [fma, ha, hb, hc]

theorem fma_of_inf_zero (h : fpVal w a = .inf sa ∧ fpVal w b = .fin sb 0 ∨ fpVal w a = .fin sa 0 ∧ fpVal w b = .inf sb) :
    fma w rm a b c = cnan w := by
  obtain ⟨ha, hb⟩ | ⟨ha, hb⟩ := h <;> cases hc : fpVal w c <;> simp only [fma, ha, hb, hc, if_true]

theorem IsInfProduct.sign (h : IsInfProduct w a b sa sb) : (signBit w a ^^ signBit w b) = (sa ^^ sb) := by
  obtain ⟨ha, hb⟩ | ⟨n, -, ha, hb⟩ | ⟨n, -, ha, hb⟩ := h
  · rw [sign_of_fpVal_inf ha, sign_of_fpVal_inf hb]
  · rw [sign_of_fpVal_inf ha, sign_of_fpVal_fin hb]
  · rw [sign_of_fpVal_fin ha, sign_of_fpVal_inf hb]

theorem fma_of_inf_product_inf (h : IsInfProduct w a b sa sb) (hc : fpVal w c = .inf sc) :
    fma w rm a b c = if sc = (sa ^^ sb) then fpInf w (sa ^^ sb) else cnan w := by
  obtain ⟨ha, hb⟩ | ⟨n, hn, ha, hb⟩ | ⟨n, hn, ha, hb⟩ := h
  · simp only [fma, ha, hb, hc]
  · simp only [fma, ha, hb, hc, if_neg hn]
  · simp only [fma, ha, hb, hc, if_neg hn]

theorem fma_of_inf_product_fin (h : IsInfProduct w a b sa sb) (hc : fpVal w c = .fin sc uc) :
    fma w rm a b c = fpInf w (sa ^^ sb) := by
  obtain ⟨ha, hb⟩ | ⟨n, hn, ha, hb⟩ | ⟨n, hn, ha, hb⟩ := h
  · simp only [fma, ha, hb, hc]
  · simp only [fma, ha, hb, hc, if_neg hn]
  · simp only [fma, ha, hb, hc, if_neg hn]

theorem fma_of_fins_inf (ha : fpVal w a = .fin sa ua) (hb : fpVal w b = .fin sb ub) (hc : fpVal w c = .inf sc) :
    fma w rm a b c = fpInf w sc := by
  simp only [fma, ha, hb, hc]

theorem fma_of_zero_product (ha : fpVal w a = .fin sa ua) (hb : fpVal w b = .fin sb ub) (hc : fpVal w c = .fin sc uc)
    (h : ua = 0 ∨ ub = 0) :
    fma w rm a b c =
      if uc = 0 then fpZero w (if sc = (sa ^^ sb) then sa ^^ sb else decide (rm = .rdn)) else fpStored w c := by
  simp only [fma, ha, hb, hc, if_pos h, fpCopy_eq_fpStored, zeroSumSign]

theorem fma_of_fins (ha : fpVal w a = .fin sa ua) (hb : fpVal w b = .fin sb ub) (hc : fpVal w c = .fin sc uc)
    (h : ¬ (ua = 0 ∨ ub = 0)) :
    fma w rm a b c = roundSigned w rm
      (signedUnits (sa ^^ sb) (ua * ub) + signedUnits sc (uc * 2 ^ w.unitExp)) (2 ^ w.unitExp) := by
  simp only [fma, ha, hb, hc, if_neg h]

theorem fma_congr {a' c' : Word} (ha : w.select a' = w.select a) (hc : w.select c' = w.select c) :
    fma w rm a' b c' = fma w rm a b c := by
  rw [fma, fma, fpVal_congr ha, fpVal_congr hc, (fpCopy_eq_fpCopy_iff w c' c).mpr hc]

/-- The exact value of a product and a third operand, in units. -/
theorem fma_units (w : FpWidth) (sa sb sc : Bool) (ua ub uc : Nat) :
    (signedUnits sa ua : ℚ) / 2 ^ w.unitExp * ((signedUnits sb ub : ℚ) / 2 ^ w.unitExp) +
        (signedUnits sc uc : ℚ) / 2 ^ w.unitExp =
      ((signedUnits (sa ^^ sb) (ua * ub) + signedUnits sc (uc * 2 ^ w.unitExp) : Int) : ℚ) / (2 ^ w.unitExp : ℕ) /
        2 ^ w.unitExp := by
  have hthird : signedUnits sc (uc * 2 ^ w.unitExp) = signedUnits sc uc * 2 ^ w.unitExp := by
    cases sc <;> simp [signedUnits]
  have hunit : (2 : ℚ) ^ w.unitExp ≠ 0 := by positivity
  rw [← signedUnits_mul, hthird]
  push_cast
  field_simp

end Fma

/-- Settles O60: the kinds of the product and of the third operand; of a nonzero product and a number the exact value is rounded
once by `roundSigned_value`. -/
theorem fpFusedMultiplyAdd : Obligations.FpFusedMultiplyAdd := by
  intro w rm a b c s infTimesNonzero
  refine ⟨?nan, ?inf_zero, ?inf_product, ?values, rfl, ?msub, ?nmsub, ?nmadd⟩
  case nan => exact fun ⟨t, h⟩ => fma_of_nan h
  case inf_zero => exact fun sa sb h => fma_of_inf_zero h
  case inf_product =>
    rintro ⟨sa, sb, n, hn, h⟩
    have hprod : IsInfProduct w a b sa sb := by
      obtain ⟨ha, hb | hb⟩ | ⟨ha, hb⟩ := h
      · exact Or.inl ⟨ha, hb⟩
      · exact Or.inr (Or.inl ⟨n, hn, ha, hb⟩)
      · exact Or.inr (Or.inr ⟨n, hn, ha, hb⟩)
    have hs : s = (sa ^^ sb) := hprod.sign
    rw [hs]
    constructor
    · intro hc
      rw [fma_of_inf_product_inf hprod hc, if_neg (Bool.not_ne_self _)]
    · intro hopp hnum
      cases hc : fpVal w c with
      | nan q => exact absurd hc (hnum q)
      | inf sc =>
        have hsc : sc = (sa ^^ sb) := by
          by_contra hne
          exact hopp (by rw [hc, Bool.eq_not_of_ne hne])
        rw [fma_of_inf_product_inf hprod hc, if_pos hsc]
        exact isVal_fpInf w _
      | fin sc uc =>
        rw [fma_of_inf_product_fin hprod hc]
        exact isVal_fpInf w _
  case values =>
    intro p q hp hq
    obtain ⟨sa, ua, ha, rfl⟩ := fpRat_eq_some_iff.mp hp
    obtain ⟨sb, ub, hb, rfl⟩ := fpRat_eq_some_iff.mp hq
    have hs : s = (sa ^^ sb) := by rw [← sign_of_fpVal_fin ha, ← sign_of_fpVal_fin hb]
    rw [Ne, Ne, fin_value_eq_zero_iff, fin_value_eq_zero_iff, hs]
    refine ⟨fun sc hc => ?_, fun hzero => ⟨fun sc hc => ?_, fun sc n hc hn => ?_⟩, fun z hz hua hub => ?_⟩
    · rw [fma_of_fins_inf ha hb hc]
      exact isVal_fpInf w sc
    · rw [fma_of_zero_product ha hb hc hzero, if_pos rfl]
      exact isVal_fpZero w _
    · rw [fma_of_zero_product ha hb hc hzero, if_neg hn]
    · obtain ⟨sc, uc, hc, rfl⟩ := fpRat_eq_some_iff.mp hz
      rw [fma_of_fins ha hb hc (not_or.mpr ⟨hua, hub⟩), ← Rat.cast_mul, ← Rat.cast_add]
      exact roundSigned_value w rm (by positivity) (fma_units w sa sb sc ua ub uc)
  case msub => exact fma_congr rfl (select_flipSign w c).symm
  case nmsub => exact fma_congr (select_flipSign w a).symm rfl
  case nmadd => exact fma_congr (select_flipSign w a).symm (select_flipSign w c).symm

end Sys2Proof.Machine
end

section
/-! PROOFS. A machine that was reset but not loaded (spec/70_reset_and_hazards.md R751): the step and the tick of a machine
that is ready to begin an instruction (spec/40_datapath.md R210, R211), at the end of the program, where reset leaves it. -/

namespace Sys2Proof.Machine

/-! ## The step and the tick of a ready machine (R210, R211) -/

theorem step_of_ready {s : State} (h : s.ready) : step s = stepDecode s := by
  obtain ⟨hwf, hrun, hstage⟩ := h
  rw [step, if_neg (not_not_intro hwf), if_neg hrun, stepRest, hstage]

theorem tick_of_ready {s : State} (h : s.ready) : tick s = tickDecode s := by
  obtain ⟨hwf, hrun, hstage⟩ := h
  rw [tick, if_neg (not_not_intro hwf), if_neg hrun, hstage]

/-! ## The end of the program (R213) -/

theorem step_of_pc_eq_progEnd {s : State} (h : s.ready) (hend : s.pc = s.progEnd) :
    step s = .next { s with run := .halted } := by
  rw [step_of_ready h, stepDecode, if_pos hend]

theorem tick_of_pc_eq_progEnd {s : State} (h : s.ready) (hend : s.pc = s.progEnd) :
    tick s = .next { s with run := .halted } := by
  rw [tick_of_ready h, tickDecode, if_pos hend]

theorem stepResult_of_halted {s : State} (hfault : s.fault = none) (hrun : s.run = .halted) : stepResult s = .halted := by
  rw [stepResult, hfault, hrun]

/-! ## The machine after reset (R750, R751) -/

@[simp] theorem resetWith_pc (cfg : Config) : (State.resetWith cfg).pc = 0 := rfl
@[simp] theorem resetWith_progEnd (cfg : Config) : (State.resetWith cfg).progEnd = 0 := rfl
@[simp] theorem resetWith_fault (cfg : Config) : (State.resetWith cfg).fault = none := rfl

theorem ready_resetWith {cfg : Config} (h : cfg.wf) : (State.resetWith cfg).ready :=
  ⟨h, by simp [State.resetWith], rfl⟩

/-- Settles O14: reset leaves a ready machine whose pc, 0, is the end of the empty program, so it halts before any fetch. -/
theorem unloadedMachineHalts : Obligations.UnloadedMachineHalts := by
  intro cfg hcfg
  have hready : (State.resetWith cfg).ready := ready_resetWith hcfg
  have hend : (State.resetWith cfg).pc = (State.resetWith cfg).progEnd := by
    rw [resetWith_pc, resetWith_progEnd]
  exact ⟨resetWith_progEnd cfg, resetWith_pc cfg, step_of_pc_eq_progEnd hready hend, tick_of_pc_eq_progEnd hready hend,
    stepResult_of_halted (resetWith_fault cfg) rfl⟩

end Sys2Proof.Machine
end

section
/-! PROOFS. Encoding and decoding (spec/30_encoding.md R110 to R127): the primary decode answers a record exactly where the
word is the record's and its opcode admits the record's variant, and the secondary decode an instruction exactly where the
record is the instruction's. -/

namespace Sys2Proof

/-! ## The primary decode (R112 to R117) -/

/-- R112 to R117: the opcode of a record is one of its variant in the instruction set; `COP1` is `IType` where `rs` is
`01000` and `RType` otherwise (R113). -/
def Record.fits (isa : Isa) : Record → Bool
  | .mipsR opcode rs .. =>
    isa == .mips64l && (mipsVariant opcode == some .rType || (mipsVariant opcode == some .cop1 && rs != 0b01000#5))
  | .mipsI opcode rs .. =>
    isa == .mips64l && (mipsVariant opcode == some .iType || (mipsVariant opcode == some .cop1 && rs == 0b01000#5))
  | .mipsJ opcode _ => isa == .mips64l && mipsVariant opcode == some .jType
  | .rvR _ _ _ _ _ opcode => isa == .rv64l && rvVariant opcode == some .rType
  | .rvI _ _ _ _ opcode => isa == .rv64l && rvVariant opcode == some .iType
  | .rvS _ _ _ _ _ opcode => isa == .rv64l && rvVariant opcode == some .sType
  | .rvB _ _ _ _ _ opcode => isa == .rv64l && rvVariant opcode == some .bType
  | .rvU _ _ opcode => isa == .rv64l && rvVariant opcode == some .uType
  | .rvJ _ _ opcode => isa == .rv64l && rvVariant opcode == some .jType
  | .rvR4 _ _ _ _ _ _ opcode => isa == .rv64l && rvVariant opcode == some .r4Type

section Fields
variable (w : Word32)
open BitVec (extractLsb'_append_extractLsb'_eq_extractLsb' extractLsb'_eq_self)

/-- R112: the fields of a word put back are the word. -/
theorem word_mipsRFields : (mipsRFields w).word = w := by
  rw [mipsRFields, mipsOpcode, Record.word]
  repeat rw [extractLsb'_append_extractLsb'_eq_extractLsb' (by decide)]
  exact extractLsb'_eq_self

theorem word_mipsIFields : (mipsIFields w).word = w := by
  rw [mipsIFields, mipsOpcode, Record.word]
  repeat rw [extractLsb'_append_extractLsb'_eq_extractLsb' (by decide)]
  exact extractLsb'_eq_self

theorem word_mipsJFields : (mipsJFields w).word = w := by
  rw [mipsJFields, mipsOpcode, Record.word]
  repeat rw [extractLsb'_append_extractLsb'_eq_extractLsb' (by decide)]
  exact extractLsb'_eq_self

theorem word_of_decodeMips {r : Record} (h : decodeMips w = some r) : r.word = w ∧ r.fits .mips64l = true := by
  unfold decodeMips at h
  split at h
  case h_1 hv => obtain rfl := Option.some.inj h; exact ⟨word_mipsRFields w, by simp [mipsRFields, Record.fits, hv]⟩
  case h_2 hv => obtain rfl := Option.some.inj h; exact ⟨word_mipsIFields w, by simp [mipsIFields, Record.fits, hv]⟩
  case h_3 hv => obtain rfl := Option.some.inj h; exact ⟨word_mipsJFields w, by simp [mipsJFields, Record.fits, hv]⟩
  case h_4 hv =>
    split_ifs at h with hrs
    · obtain rfl := Option.some.inj h; exact ⟨word_mipsIFields w, by simp [mipsIFields, Record.fits, hv, hrs]⟩
    · obtain rfl := Option.some.inj h; exact ⟨word_mipsRFields w, by simp [mipsRFields, Record.fits, hv, hrs]⟩
  case h_5 => exact absurd h (by simp)

theorem word_of_decodeRv {r : Record} (h : decodeRv w = some r) : r.word = w ∧ r.fits .rv64l = true := by
  unfold decodeRv at h
  split at h
  case h_8 => exact absurd h (by simp)
  all_goals
    rename_i hv
    obtain rfl := Option.some.inj h
    refine ⟨?_, by simp [Record.fits, hv]⟩
    rw [rvOpcode, Record.word]
    repeat rw [extractLsb'_append_extractLsb'_eq_extractLsb' (by decide)]
    exact extractLsb'_eq_self

end Fields

/-- R112 to R117: a record whose opcode is of its variant is what its word decodes to. -/
theorem decodeRecord_word {isa : Isa} {r : Record} (h : r.fits isa = true) : decodeRecord isa r.word = some r := by
  cases r
  all_goals
    simp only [Record.fits, Bool.and_eq_true, Bool.or_eq_true, beq_iff_eq, bne_iff_ne] at h
    obtain ⟨rfl, hv⟩ := h
  case mipsR =>
    obtain hv | ⟨hv, hrs⟩ := hv
    · exact decodeRecord_mipsR _ _ _ _ _ _ hv
    · simp [decodeRecord, decodeMips, mipsRFields, hv, hrs]
  case mipsI =>
    obtain hv | ⟨hv, hrs⟩ := hv
    · exact decodeRecord_mipsI _ _ _ _ hv
    · simp [decodeRecord, decodeMips, mipsIFields, hv, hrs]
  case mipsJ => exact decodeRecord_mipsJ _ _ hv
  case rvR => exact decodeRecord_rvR _ _ _ _ _ _ hv
  case rvI => exact decodeRecord_rvI _ _ _ _ _ hv
  case rvS => exact decodeRecord_rvS _ _ _ _ _ _ hv
  case rvB => exact decodeRecord_rvB _ _ _ _ _ _ hv
  case rvU => exact decodeRecord_rvU _ _ _ hv
  case rvJ => exact decodeRecord_rvJ _ _ _ hv
  case rvR4 => exact decodeRecord_rvR4 _ _ _ _ _ _ _ hv

/-- R115: the primary decode of a word gives a record exactly where the word holds its fields and its opcode is of its
variant. -/
theorem decodeRecord_eq_some_iff {isa : Isa} {w : Word32} {r : Record} :
    decodeRecord isa w = some r ↔ r.word = w ∧ r.fits isa = true := by
  constructor
  · intro h
    cases isa with
    | mips64l => exact word_of_decodeMips w h
    | rv64l => exact word_of_decodeRv w h
  · rintro ⟨rfl, h⟩
    exact decodeRecord_word h

/-! ## The secondary decode (R162) -/

theorem extractLsb'_append_high {m n : Nat} (hi : BitVec m) (lo : BitVec n) : (hi ++ lo).extractLsb' n m = hi := by
  rw [BitVec.extractLsb'_append_eq_of_le le_rfl, Nat.sub_self, BitVec.extractLsb'_eq_self]

theorem extractLsb'_append_low {m n : Nat} (hi : BitVec m) (lo : BitVec n) : (hi ++ lo).extractLsb' 0 n = lo := by
  rw [BitVec.extractLsb'_append_eq_of_add_le (Nat.zero_add n).le, BitVec.extractLsb'_eq_self]

theorem fits_record (i : Instr) : i.record.fits i.isa = true := by cases i <;> rfl

theorem instr_record {i : Instr} (h : i.wf = true) : i.record.instr = some i := by
  cases i
  case rvFaddS | rvFaddD | rvFsubS | rvFsubD | rvFmulS | rvFmulD | rvFdivS | rvFdivD | rvFsqrtS | rvFsqrtD
      | rvFmaddS | rvFmaddD | rvFmsubS | rvFmsubD | rvFnmsubS | rvFnmsubD | rvFnmaddS | rvFnmaddD =>
    exact if_pos (Laws.SecondaryDecode.roundingMode_isSome _ h)
  case rvSlli | rvSrli | rvSrai =>
    simp only [Instr.record, Record.instr, decodeRvOpImm, extractLsb'_append_high, extractLsb'_append_low]
  case rvSlliw | rvSrliw | rvSraiw =>
    simp only [Instr.record, Record.instr, decodeRvOpImm32, extractLsb'_append_high, extractLsb'_append_low]
  all_goals rfl

/-- R112 to R117: no record is of both instruction sets. -/
theorem isa_unique_of_fits {r : Record} {a b : Isa} (ha : r.fits a = true) (hb : r.fits b = true) : a = b := by
  cases r <;> simp [Record.fits] at ha hb <;> rw [ha.1, hb.1]

theorem legalRm_of_isSome {rm : BitVec 3} (h : (roundingMode rm).isSome = true) : legalRm rm = true := by
  revert h; revert rm; decide

theorem append_extractLsb' {m n : Nat} {x : BitVec (m + n)} {hi : BitVec m} (h : x.extractLsb' n m = hi) :
    hi ++ x.extractLsb' 0 n = x := by
  rw [← h, BitVec.extractLsb'_append_extractLsb'_eq_extractLsb' (Nat.zero_add n).symm, BitVec.extractLsb'_eq_self]

/-- R125, R162: every arm of the secondary decode answers an instruction whose record is the one it matched; where it checks a
rounding mode, that mode is legal. -/
theorem record_of_instr {r : Record} {i : Instr} (h : r.instr = some i) : i.record = r ∧ i.wf = true := by
  cases r
  all_goals
    unfold Record.instr at h
    dsimp only at h
  case mipsR =>
    unfold decodeMipsSpecial decodeMipsCop1 at h
    repeat' split at h
    all_goals cases h
    all_goals exact ⟨rfl, rfl⟩
  case mipsI =>
    unfold decodeMipsCop1Branch at h
    repeat' split at h
    all_goals cases h
    all_goals exact ⟨rfl, rfl⟩
  case mipsJ =>
    split at h
    all_goals cases h
    all_goals exact ⟨rfl, rfl⟩
  case rvR =>
    unfold decodeRvOp decodeRvOp32 decodeRvOpFp at h
    repeat' split at h
    all_goals cases h
    any_goals exact ⟨rfl, rfl⟩
    all_goals exact ⟨rfl, legalRm_of_isSome ‹_›⟩
  case rvI =>
    unfold decodeRvLoad decodeRvLoadFp decodeRvOpImm decodeRvOpImm32 decodeRvJalr decodeRvSystem at h
    repeat' split at h
    all_goals cases h
    any_goals exact ⟨rfl, rfl⟩
    all_goals rename_i hfixed; exact ⟨by rw [Instr.record, append_extractLsb' hfixed], rfl⟩
  case rvS =>
    unfold decodeRvStore decodeRvStoreFp at h
    repeat' split at h
    all_goals cases h
    all_goals exact ⟨rfl, rfl⟩
  case rvB =>
    unfold decodeRvBranch at h
    repeat' split at h
    all_goals cases h
    all_goals exact ⟨rfl, rfl⟩
  case rvU =>
    split at h
    all_goals cases h
    all_goals exact ⟨rfl, rfl⟩
  case rvJ =>
    split at h
    all_goals cases h
    exact ⟨rfl, rfl⟩
  case rvR4 =>
    unfold decodeRvMadd decodeRvMsub decodeRvNmsub decodeRvNmadd at h
    repeat' split at h
    all_goals cases h
    all_goals exact ⟨rfl, legalRm_of_isSome ‹_›⟩

/-! ## The decoder (R125) -/

theorem decode_of_instr {isa : Isa} {w : Word32} {r : Record} {i : Instr} (h : decodeRecord isa w = some r)
    (hi : r.instr = some i) : decode isa w = .instr i := by
  simp only [decode, h, hi]

theorem decode_of_instr_eq_none {isa : Isa} {w : Word32} {r : Record} (h : decodeRecord isa w = some r)
    (hi : r.instr = none) : decode isa w = .inert r := by
  simp only [decode, h, hi]

theorem decode_of_decodeRecord_eq_none {isa : Isa} {w : Word32} (h : decodeRecord isa w = none) :
    decode isa w = .unsupported (primaryOpcode isa w) := by
  simp only [decode, h]

theorem decode_ne_unsupported {isa : Isa} {w : Word32} {r : Record} (h : decodeRecord isa w = some r) (op : BitVec 7) :
    decode isa w ≠ .unsupported op := by
  cases hi : r.instr with
  | none => simp [decode_of_instr_eq_none h hi]
  | some i => simp [decode_of_instr h hi]

/-- R125 case 2: a word decodes to exactly the well-formed instruction whose word it is. -/
theorem decode_eq_instr_iff {isa : Isa} {w : Word32} {i : Instr} :
    decode isa w = .instr i ↔ encode i = w ∧ i.isa = isa ∧ i.wf = true := by
  constructor
  · intro h
    cases hr : decodeRecord isa w with
    | none => simp [decode_of_decodeRecord_eq_none hr] at h
    | some r =>
      cases hi : r.instr with
      | none => simp [decode_of_instr_eq_none hr hi] at h
      | some j =>
        obtain rfl : j = i := by simpa [decode_of_instr hr hi] using h
        obtain ⟨hword, hfits⟩ := decodeRecord_eq_some_iff.mp hr
        obtain ⟨hrec, hwf⟩ := record_of_instr hi
        refine ⟨by rw [encode, hrec, hword], isa_unique_of_fits (fits_record j) ?_, hwf⟩
        rw [hrec]
        exact hfits
  · rintro ⟨rfl, rfl, hwf⟩
    exact decode_of_instr (decodeRecord_word (fits_record i)) (instr_record hwf)

/-- R125 case 3: the word of an instruction whose record matches no instruction rule is inert. -/
theorem decode_encode_inert {i : Instr} (h : i.record.instr = none) : decode i.isa (encode i) = .inert i.record :=
  decode_of_instr_eq_none (decodeRecord_word (fits_record i)) h

/-- Settles O2: the primary decode gives the instruction's record back, the secondary decode the instruction. -/
theorem mipsDecodeOfEncode : Obligations.MipsDecodeOfEncode :=
  fun _ hisa hwf => decode_eq_instr_iff.mpr ⟨rfl, hisa, hwf⟩

/-- Settles O3: as for the other set; a legal rounding mode is one the secondary decode admits. -/
theorem rvDecodeOfEncode : Obligations.RvDecodeOfEncode :=
  fun _ hisa hwf => decode_eq_instr_iff.mpr ⟨rfl, hisa, hwf⟩

/-- Settles O4: the arm of the secondary decode that answers an instruction fixes every field of its record. -/
theorem encodeOfDecode : Obligations.EncodeOfDecode := fun _ _ _ h => decode_eq_instr_iff.mp h

/-- Settles O5: the fields of each layout are adjacent bit ranges that cover the word. -/
theorem recordHoldsEveryBit : Obligations.RecordHoldsEveryBit := fun _ _ _ h => (decodeRecord_eq_some_iff.mp h).1

/-! ## The primary opcode tables (R116, R117) -/

/-- R116: the primary opcodes of `MIPS64L`. -/
def mipsOpcodes : List (BitVec 6) :=
  [0b000000#6, 0b000010#6, 0b000011#6, 0b000100#6, 0b000101#6, 0b001000#6, 0b001001#6, 0b001010#6,
   0b001011#6, 0b001100#6, 0b001101#6, 0b001110#6, 0b001111#6, 0b010001#6, 0b011000#6, 0b011001#6, 0b100000#6,
   0b100001#6, 0b100011#6, 0b100100#6, 0b100101#6, 0b100111#6, 0b101000#6, 0b101001#6, 0b101011#6, 0b110001#6,
   0b110101#6, 0b110111#6, 0b111001#6, 0b111101#6, 0b111111#6]

/-- R116: a listed opcode has the variant the table gives it, any other none. -/
theorem mipsVariant_eq (op : BitVec 6) :
    mipsVariant op =
      if op = 0b000000#6 then some .rType else if op = 0b010001#6 then some .cop1
      else if op = 0b000010#6 ∨ op = 0b000011#6 then some .jType else if op ∈ mipsOpcodes then some .iType else none := by
  revert op; decide

theorem decodeRecord_mips_of_mem {w : Word32} (h : mipsOpcode w ∈ mipsOpcodes) :
    decodeRecord .mips64l w = some (
      if mipsOpcode w = 0b000000#6 ∨ mipsOpcode w = 0b010001#6 ∧ w.extractLsb' 21 5 ≠ 0b01000#5 then mipsRFields w
      else if mipsOpcode w = 0b000010#6 ∨ mipsOpcode w = 0b000011#6 then mipsJFields w else mipsIFields w) := by
  have hv := mipsVariant_eq (mipsOpcode w)
  by_cases hspecial : mipsOpcode w = 0b000000#6
  · simp [decodeRecord, decodeMips, hspecial, mipsVariant]
  · by_cases hcop : mipsOpcode w = 0b010001#6
    · by_cases hrs : w.extractLsb' 21 5 = 0b01000#5 <;> simp [decodeRecord, decodeMips, hcop, hrs, mipsVariant]
    · by_cases hj : mipsOpcode w = 0b000010#6 ∨ mipsOpcode w = 0b000011#6
      · rw [if_neg hspecial, if_neg hcop, if_pos hj] at hv
        simp [decodeRecord, decodeMips, hv, hspecial, hcop, hj]
      · rw [if_neg hspecial, if_neg hcop, if_neg hj, if_pos h] at hv
        simp [decodeRecord, decodeMips, hv, hspecial, hcop, hj]

theorem decodeRecord_mips_of_not_mem {w : Word32} (h : mipsOpcode w ∉ mipsOpcodes) :
    decodeRecord .mips64l w = none := by
  have hv : mipsVariant (mipsOpcode w) = none := by
    generalize mipsOpcode w = op at h ⊢
    revert op; decide
  simp only [decodeRecord, decodeMips, hv]

/-- R117: the variant of the primary opcodes of `RV64L`. -/
def rvOpcodes : Variant → List (BitVec 7)
  | .iType => [0b0000011#7, 0b0000111#7, 0b0010011#7, 0b0011011#7, 0b1100111#7, 0b1110011#7]
  | .uType => [0b0010111#7, 0b0110111#7]
  | .sType => [0b0100011#7, 0b0100111#7]
  | .rType => [0b0110011#7, 0b0111011#7, 0b1010011#7]
  | .r4Type => [0b1000011#7, 0b1000111#7, 0b1001011#7, 0b1001111#7]
  | .bType => [0b1100011#7]
  | .jType => [0b1101111#7]
  | .cop1 => []

theorem rvVariant_of_mem {op : BitVec 7} {v : Variant} (h : op ∈ rvOpcodes v) : rvVariant op = some v := by
  revert h; cases v <;> revert op <;> decide

theorem rvVariant_of_not_mem {op : BitVec 7}
    (h : op ∉ rvOpcodes .iType ++ rvOpcodes .uType ++ rvOpcodes .sType ++ rvOpcodes .rType ++ rvOpcodes .r4Type ++
      [0b1100011#7, 0b1101111#7]) : rvVariant op = none := by
  revert op; decide

/-- Settles O11: each table is a finite fact about the opcode; with the variant known the record is that of the fields. -/
theorem primaryOpcodeTables : Obligations.PrimaryOpcodeTables := by
  intro w
  have hknown {r : Record} (h : decodeRecord .rv64l w = some r) :
      decodeRecord .rv64l w = some r ∧ ∀ x, decode .rv64l w ≠ .unsupported x := ⟨h, decode_ne_unsupported h⟩
  refine ⟨⟨fun h => ?_, fun h => ?_⟩, fun h => hknown ?_, fun h => hknown ?_, fun h => hknown ?_, fun h => hknown ?_,
    fun h => hknown ?_, fun h => hknown ?_, fun h => hknown ?_, fun h => ?_⟩
  · exact ⟨decodeRecord_mips_of_mem h, decode_ne_unsupported (decodeRecord_mips_of_mem h)⟩
  · exact ⟨decodeRecord_mips_of_not_mem h, decode_of_decodeRecord_eq_none (decodeRecord_mips_of_not_mem h)⟩
  · simp only [decodeRecord, decodeRv, rvOpcode, rvVariant_of_mem (v := .iType) h]
  · simp only [decodeRecord, decodeRv, rvOpcode, rvVariant_of_mem (v := .uType) h]
  · simp only [decodeRecord, decodeRv, rvOpcode, rvVariant_of_mem (v := .sType) h]
  · simp only [decodeRecord, decodeRv, rvOpcode, rvVariant_of_mem (v := .rType) h]
  · simp only [decodeRecord, decodeRv, rvOpcode, rvVariant_of_mem (v := .r4Type) h]
  · simp only [decodeRecord, decodeRv, rvOpcode, rvVariant_of_mem (v := .bType) (List.mem_singleton.mpr h)]
  · simp only [decodeRecord, decodeRv, rvOpcode, rvVariant_of_mem (v := .jType) (List.mem_singleton.mpr h)]
  · have hnone : decodeRecord .rv64l w = none := by
      simp only [decodeRecord, decodeRv, rvOpcode, rvVariant_of_not_mem h]
    exact ⟨hnone, decode_of_decodeRecord_eq_none hnone⟩

/-- Settles O1: the decoder evaluates on each word. -/
theorem decodeSpecWords : Obligations.DecodeSpecWords := by
  unfold Obligations.DecodeSpecWords
  decide

end Sys2Proof
end

section
/-! PROOFS. The step and the tick (spec/40_datapath.md R210 to R241): what each tick commits, the step as ticks, what a run
through the stages can answer, and what the vectors of all instructions have in common. -/

namespace Sys2Proof.Machine

/-! ## A stopped machine (R212) -/

theorem step_of_stopped {s : State} (hwf : s.cfg.wf) (h : s.stopped) : step s = .next s := by
  rw [step, if_neg (not_not_intro hwf), if_pos h]

theorem tick_of_stopped {s : State} (hwf : s.cfg.wf) (h : s.stopped) : tick s = .next s := by
  rw [tick, if_neg (not_not_intro hwf), if_pos h]

/-- Settles O20: a recorded error and a halt both stop the machine; the record is looked at first. -/
theorem stoppedChangesNothing : Obligations.StoppedChangesNothing := by
  intro s hwf
  refine ⟨fun e he => ?_, fun hrun hfault => ?_⟩
  · have hstopped : s.stopped := Or.inl (by rw [he]; rfl)
    exact ⟨tick_of_stopped hwf hstopped, step_of_stopped hwf hstopped, by rw [stepResult, he]⟩
  · have hstopped : s.stopped := Or.inr hrun
    exact ⟨tick_of_stopped hwf hstopped, step_of_stopped hwf hstopped, stepResult_of_halted hfault hrun⟩

/-! ## The machine after reset (R60, R750) -/

/-- Settles O15: each element is a field of the reset state; its register files are full of zeros, its memory is empty. -/
theorem resetState : Obligations.ResetState := by
  intro cfg i a
  refine ⟨?readX, ?readF, rfl, rfl, rfl, rfl, rfl, rfl, rfl, rfl, rfl, rfl⟩
  case readX => simp [State.readX, State.resetWith]
  case readF => simp [State.readF, State.resetWith]

theorem inv_resetWith {cfg : Config} (h : cfg.wf) : (State.resetWith cfg).Inv := by
  refine ⟨h, ⟨reset_memory_wf cfg, by simp [State.resetWith]⟩, ⟨rfl, Nat.zero_le _, rfl, Nat.zero_le _⟩, ?_⟩
  rw [State.spOk, (resetState cfg _ 0).1]
  exact ⟨rfl, Nat.zero_le _⟩

/-- Settles O17: reset leaves zeros, which are a valid pc and a valid stack pointer, and no byte in memory. -/
theorem resetHasInvariant : Obligations.ResetHasInvariant :=
  ⟨fun _ h => inv_resetWith h, inv_resetWith (by decide)⟩

/-! ## The ticks of a running machine (R210) -/

section Ticks
variable {s : State} (hwf : s.cfg.wf) (hrun : ¬ s.stopped)
include hwf hrun

theorem tick_execute (hstage : s.stage = .execute) : tick s = .next (commitStage s (executeStage s)) := by
  rw [tick, if_neg (not_not_intro hwf), if_neg hrun, hstage]

theorem tick_memory (hstage : s.stage = .memory) : tick s = .next (commitStage s (memoryStage s)) := by
  rw [tick, if_neg (not_not_intro hwf), if_neg hrun, hstage]

theorem tick_writeback (hstage : s.stage = .writeback) : tick s = .next (commitStage s (writebackStage s)) := by
  rw [tick, if_neg (not_not_intro hwf), if_neg hrun, hstage]

end Ticks

theorem stepDecode_of_fetchWord {s : State} {w : Word32} (hpc : s.pc ≠ s.progEnd) (hw : fetchWord s = some w) :
    stepDecode s = runDecoded (decode s.cfg.isa w) w s := by
  simp only [stepDecode, if_neg hpc, hw]

theorem tickDecode_of_fetchWord {s : State} {w : Word32} (hpc : s.pc ≠ s.progEnd) (hw : fetchWord s = some w) :
    tickDecode s = .next (tickDecoded (decode s.cfg.isa w) w s) := by
  simp only [tickDecode, if_neg hpc, hw]

/-! ## A step as ticks (R211) -/

theorem stopped_raise (s : State) (k : ErrKind) (w : Word32) : (s.raise k w).stopped := Or.inl rfl

theorem ticks_succ_of_next {n : Nat} {s t : State} (h : tick s = .next t) (hrun : ¬ t.stopped) (hstage : t.stage ≠ .decode) :
    ticks (n + 1) s = ticks n t := by
  simp only [ticks, h, if_neg (not_or.mpr ⟨hrun, hstage⟩)]

theorem ticks_succ_of_end {n : Nat} {s t : State} (h : tick s = .next t) (hend : t.stopped ∨ t.stage = .decode) :
    ticks (n + 1) s = .next t := by
  simp only [ticks, h, if_pos hend]

section Ticks
variable {s : State} (hwf : s.cfg.wf) (hrun : ¬ s.stopped)
include hwf hrun

theorem ticks_writeback (n : Nat) (hstage : s.stage = .writeback) : ticks (n + 1) s = .next (fromWriteback s) := by
  have htick := tick_writeback hwf hrun hstage
  unfold fromWriteback
  rcases writebackStage_cases s with ⟨-, -, L, h⟩ | ⟨-, -, h⟩ | ⟨-, -, h⟩
  · rw [h] at htick ⊢
    exact ticks_succ_of_end htick (Or.inr rfl)
  · rw [h] at htick ⊢
    exact ticks_succ_of_end htick (Or.inl (stopped_raise ..))
  · rw [h] at htick ⊢
    exact ticks_succ_of_end htick (Or.inl (stopped_raise ..))

theorem ticks_memory (n : Nat) (hstage : s.stage = .memory) : ticks (n + 2) s = .next (fromMemory s) := by
  have htick := tick_memory hwf hrun hstage
  unfold fromMemory
  rcases memoryStage_cases s with ⟨md, m, -, -, h⟩ | ⟨k, -, h⟩
  · rw [h] at htick ⊢
    rw [ticks_succ_of_next htick hrun (by simp [commitStage])]
    exact ticks_writeback (by exact hwf) (by exact hrun) n rfl
  · rw [h] at htick ⊢
    exact ticks_succ_of_end htick (Or.inl (stopped_raise ..))

theorem ticks_execute (n : Nat) (hstage : s.stage = .execute) : ticks (n + 3) s = .next (fromExecute s) := by
  have htick := tick_execute hwf hrun hstage
  unfold fromExecute
  rcases executeStage_cases s with ⟨fr, cr, -, -, h⟩ | ⟨op, h, -⟩
  · rw [h] at htick ⊢
    rw [ticks_succ_of_next htick hrun (by simp [commitStage])]
    exact ticks_memory (by exact hwf) (by exact hrun) n rfl
  · rw [h] at htick ⊢
    exact ticks_succ_of_end htick (Or.inl (stopped_raise ..))

end Ticks

/-- R211: what the Decode tick begins, the next three ticks finish as the step does. -/
theorem ticks_tickDecoded {s : State} {w : Word32} (hready : s.ready) (hpc : s.pc ≠ s.progEnd) (hw : fetchWord s = some w) :
    ticks 4 s = runDecoded (decode s.cfg.isa w) w s := by
  have htick : tick s = .next (tickDecoded (decode s.cfg.isa w) w s) := by
    rw [tick_of_ready hready, tickDecode_of_fetchWord hpc hw]
  obtain ⟨hwf, hrun, -⟩ := hready
  cases hd : decode s.cfg.isa w with
  | unsupported op =>
    rw [hd] at htick
    exact ticks_succ_of_end htick (Or.inl (stopped_raise ..))
  | inert r =>
    rw [hd] at htick
    rw [ticks_succ_of_next htick hrun (by simp [tickDecoded])]
    exact ticks_execute (s := latchDecode r w inertVectors s) hwf hrun 0 rfl
  | instr i =>
    rw [hd] at htick
    rw [ticks_succ_of_next htick hrun (by simp [tickDecoded]), runDecoded, exec_eq, (decode_eq_instr_iff.mp hd).1]
    exact ticks_execute (s := latchDecode i.record w (vectors i) s) hwf hrun 0 rfl

/-- Settles O16: a step and the ticks of its instruction take the same stages; a stopped machine and the end of the program
take one tick. -/
theorem stepIsFourTicks : Obligations.StepIsFourTicks := by
  intro s hwf hstage
  by_cases hrun : s.stopped
  · rw [step_of_stopped hwf hrun, ticks_succ_of_end (tick_of_stopped hwf hrun) (Or.inl hrun)]
  have hready : s.ready := ⟨hwf, hrun, hstage⟩
  by_cases hpc : s.pc = s.progEnd
  · rw [step_of_pc_eq_progEnd hready hpc, ticks_succ_of_end (tick_of_pc_eq_progEnd hready hpc) (Or.inl (Or.inr rfl))]
  cases hw : fetchWord s with
  | none => simp only [step_of_ready hready, stepDecode, ticks, tick_of_ready hready, tickDecode, if_neg hpc, hw]
  | some w => rw [step_of_ready hready, stepDecode_of_fetchWord hpc hw, ticks_tickDecoded hready hpc hw]

/-! ## A step that runs a fetched word (R125, R211) -/

theorem step_of_fetchWord {s : State} {w : Word32} (hready : s.ready) (hpc : s.pc ≠ s.progEnd) (hw : fetchWord s = some w) :
    step s = runDecoded (decode s.cfg.isa w) w s := by
  rw [step_of_ready hready, stepDecode_of_fetchWord hpc hw]

/-- Settles O6: the step of a ready machine fetches and runs. -/
theorem stepRunsDecoded : Obligations.StepRunsDecoded := by
  intro s w i hready hpc hw hd
  rw [step_of_fetchWord hready hpc hw, hd, runDecoded]

/-- Settles O13: the Decode stage raises before it latches anything. -/
theorem unsupportedOpcodeRaised : Obligations.UnsupportedOpcodeRaised := by
  intro s w op hready hpc hw hd
  constructor
  · cases hr : decodeRecord s.cfg.isa w with
    | none =>
      rw [decode_of_decodeRecord_eq_none hr] at hd
      exact (Decoded.unsupported.inj hd).symm
    | some r => exact absurd hd (decode_ne_unsupported hr op)
  · rw [step_of_fetchWord hready hpc hw, hd, runDecoded, State.raise, hready.2.2]

end Sys2Proof.Machine
end

section
/-! PROOFS. What a run through the four stages can answer (spec/40_datapath.md R245, spec/60_exceptions.md R708), and what the
vectors of the instructions have in common (R162, R177): who halts, who writes the condition code and memory. -/

namespace Sys2Proof.Machine

/-! ## The outcomes of a run -/

/-- R708: the state a run of the word `w` from `s` ends in when `stage` raises, with `data`, memory and the latches as the
stages before left them. -/
def State.raised (s : State) (w : Word32) (stage : Stage) (kind : ErrKind) (d : Word) (m : Memory) (L : Latches) : State :=
  { s with
    data := d, mem := m, stage := stage, lat := L
    fault := some { kind := kind, pc := s.pc, word := w, stage := stage } }

/-- What the Memory stage of a run leaves as memory. -/
def RunStores (s : State) (r : Record) (w : Word32) (v : Vectors) (fr : Word) (cr : Bool) (m : Memory) : Prop :=
  storeValue s v.cs.memWrite (runAddr s r w v) (runStored s r w v fr cr) = .ok { s with mem := m }

/-- R245: a run completes, with its checks passed, or raises: before memory changes, or in Writeback, where a check failed. -/
theorem runWord_cases (s : State) (r : Record) (w : Word32) (v : Vectors) :
    (∃ fr cr md m L, RunStores s r w v fr cr m ∧ s.pcValid (runNext s r w v) ∧
      (v.cs.regWrite = true → s.xWritable (wbIndexOf s.cfg.isa v.cs.regDst w) (runValue s r w v fr cr md)) ∧
      runWord r w v s = .next { runEnd s r w v fr cr md m with lat := L }) ∨
    ∃ stage kind d m L, runWord r w v s = .next (s.raised w stage kind d m L) ∧
      (m = s.mem ∨ (∃ fr cr, RunStores s r w v fr cr m) ∧ (v.cs.regWrite = true ∨ ¬ s.pcValid (runNext s r w v))) := by
  cases hf : runFpu s w v with
  | error k =>
    obtain ⟨L, h⟩ := runWord_raises_execute (r := r) (Or.inl hf)
    exact Or.inr ⟨.execute, k, s.data, s.mem, L, h, Or.inl rfl⟩
  | ok fr =>
    cases hc : runCmp s w v with
    | error k =>
      obtain ⟨L, h⟩ := runWord_raises_execute (r := r) (Or.inr ⟨⟨fr, hf⟩, hc⟩)
      exact Or.inr ⟨.execute, k, s.data, s.mem, L, h, Or.inl rfl⟩
    | ok cr =>
      rcases loadValue_cases s v.cs.memRead (runAddr s r w v) with ⟨md, hl⟩ | ⟨-, -, hl⟩
      case inr =>
        obtain ⟨L, h⟩ := runWord_raises_memory hf hc (Or.inl hl)
        exact Or.inr ⟨.memory, _, _, s.mem, L, h, Or.inl rfl⟩
      have hstore : (∃ m, RunStores s r w v fr cr m) ∨
          ∃ k, storeValue s v.cs.memWrite (runAddr s r w v) (runStored s r w v fr cr) = .error k := by
        rcases storeValue_cases s v.cs.memWrite (runAddr s r w v) (runStored s r w v fr cr) with
          ⟨-, h⟩ | ⟨-, -, h⟩ | ⟨-, -, h⟩
        · exact Or.inl ⟨s.mem, h⟩
        · exact Or.inl ⟨_, h⟩
        · exact Or.inr ⟨_, h⟩
      obtain ⟨m, hm⟩ | ⟨k, hk⟩ := hstore
      case inr =>
        obtain ⟨L, h⟩ := runWord_raises_memory hf hc (Or.inr ⟨⟨md, hl⟩, hk⟩)
        exact Or.inr ⟨.memory, _, _, s.mem, L, h, Or.inl rfl⟩
      by_cases hx : v.cs.regWrite = true → s.xWritable (wbIndexOf s.cfg.isa v.cs.regDst w) (runValue s r w v fr cr md)
      case neg =>
        obtain ⟨hw, hx⟩ := Classical.not_imp.mp hx
        obtain ⟨L, h⟩ := runWord_raises_writeback hf hc hl hm (Or.inl ⟨hw, hx, rfl⟩)
        exact Or.inr ⟨.writeback, _, _, m, L, h, Or.inr ⟨⟨fr, cr, hm⟩, Or.inl hw⟩⟩
      by_cases hp : s.pcValid (runNext s r w v)
      case neg =>
        obtain ⟨L, h⟩ := runWord_raises_writeback hf hc hl hm (Or.inr ⟨hx, hp, rfl⟩)
        exact Or.inr ⟨.writeback, _, _, m, L, h, Or.inr ⟨⟨fr, cr, hm⟩, Or.inr hp⟩⟩
      obtain ⟨L, h⟩ := runWord_completes hf hc hl hm hx hp
      exact Or.inl ⟨fr, cr, md, m, L, hm, hp, hx, h⟩

theorem runStores_noWrite {s : State} {r : Record} {w : Word32} {v : Vectors} {fr : Word} {cr : Bool} {m : Memory}
    (hmw : v.cs.memWrite = .noWrite) (h : RunStores s r w v fr cr m) : m = s.mem := by
  rw [RunStores, storeValue, if_pos hmw] at h
  exact (congrArg State.mem (Except.ok.inj h)).symm

section RunEnd
variable (s : State) (r : Record) (w : Word32) (v : Vectors) (fr : Word) (cr : Bool) (md : Word) (m : Memory)

theorem runEnd_cfg : (runEnd s r w v fr cr md m).cfg = s.cfg := by
  unfold runEnd; split <;> simp

theorem runEnd_progEnd : (runEnd s r w v fr cr md m).progEnd = s.progEnd := by
  unfold runEnd; split <;> simp

theorem runEnd_fault : (runEnd s r w v fr cr md m).fault = s.fault := by
  unfold runEnd; split <;> simp

end RunEnd

/-! ## The vectors of the instructions (R162, R177) -/

/-- R645: what holds of the inert vectors and of the vectors in every mode holds of a rounded instruction's. -/
theorem roundedVectors_rec {P : Vectors → Prop} {rm : BitVec 3} {v : Round → Vectors} (hinert : P inertVectors)
    (hmode : ∀ m, P (v m)) : P (roundedVectors rm v) := by
  unfold roundedVectors
  split
  · exact hmode _
  · exact hinert

/-- What an instruction's vectors write beside registers and the pc: the condition code, memory, the halt; a store writes no
general register and goes on to pc + 4. -/
structure VectorsOf (i : Instr) (v : Vectors) : Prop where
  cc : v.fs.ccWrite = isComparison i
  halt : v.cs.halt = isHalting i
  memory : (v.cs.memWrite != .noWrite) = isStore i
  store : isStore i = true → v.cs.regWrite = false ∧ v.cs.jump = .noJump ∧ v.cs.branch = .noBranch ∧
    v.fs.fpuBranch = .noFpuBranch

theorem vectorsOf_vectors (i : Instr) : VectorsOf i (vectors i) := by
  cases i
  case rvFaddS | rvFaddD | rvFsubS | rvFsubD | rvFmulS | rvFmulD | rvFdivS | rvFdivD | rvFsqrtS | rvFsqrtD
      | rvFmaddS | rvFmaddD | rvFmsubS | rvFmsubD | rvFnmsubS | rvFnmsubD | rvFnmaddS | rvFnmaddD =>
    exact roundedVectors_rec ⟨rfl, rfl, rfl, nofun⟩ fun _ => ⟨rfl, rfl, rfl, nofun⟩
  case mipsSb | mipsSh | mipsSw | mipsSd | mipsSwc1 | mipsSdc1 | rvSb | rvSh | rvSw | rvSd | rvFsw | rvFsd =>
    exact ⟨rfl, rfl, rfl, fun _ => ⟨rfl, rfl, rfl, rfl⟩⟩
  all_goals exact ⟨rfl, rfl, rfl, nofun⟩

theorem memWrite_of_not_isStore {i : Instr} (h : isStore i = false) : (vectors i).cs.memWrite = .noWrite := by
  have hm := (vectorsOf_vectors i).memory
  rw [h] at hm
  simpa using hm

/-- R238: without a jump and a branch the next pc is pc + 4. -/
theorem runNext_of_noBranch {s : State} {r : Record} {w : Word32} {v : Vectors} (hj : v.cs.jump = .noJump)
    (hb : v.cs.branch = .noBranch) (hfb : v.fs.fpuBranch = .noFpuBranch) : runNext s r w v = s.pc + 4 := by
  simp [runNext, runTaken, nextPcOf, mainTakenOf, fpuTakenOf, hj, hb, hfb]

/-- Settles O19: a run writes the condition code and memory only where its vectors say so, which are those of the comparisons
and of the stores. -/
theorem writersOfCcAndMemory : Obligations.WritersOfCcAndMemory := by
  intro i s t h
  rw [exec_eq] at h
  have hv := vectorsOf_vectors i
  rcases runWord_cases s i.record (encode i) (vectors i) with
    ⟨fr, cr, md, m, L, hm, -, -, hrun⟩ | ⟨stage, kind, d, m, L, hrun, hm⟩
  · obtain rfl := Host.Outcome.next.inj (hrun.symm.trans h)
    refine ⟨fun hcmp => ?_, fun hst a => ?_⟩
    · simp [runEnd, hv.cc, hcmp]
    · simp [runEnd, runStores_noWrite (memWrite_of_not_isStore hst) hm]
  · obtain rfl := Host.Outcome.next.inj (hrun.symm.trans h)
    refine ⟨fun _ => rfl, fun hst a => ?_⟩
    obtain rfl | ⟨⟨fr, cr, hm⟩, -⟩ := hm
    · rfl
    · rw [State.raised, runStores_noWrite (memWrite_of_not_isStore hst) hm]

/-! ## The program counter before the end of the program (R38 to R40) -/

theorem pc_add_four_le_progEnd {s : State} (h : s.pcOk) (hpc : s.pc ≠ s.progEnd) : s.pc.toNat + 4 ≤ s.progEnd.toNat := by
  obtain ⟨hend, -, hmod, hle⟩ := h
  have hne : s.pc.toNat ≠ s.progEnd.toNat := fun e => hpc (BitVec.eq_of_toNat_eq e)
  omega

/-- R90: the word at the pc of a running program is in memory. -/
theorem exists_fetchWord {s : State} (h : s.pcOk) (hpc : s.pc ≠ s.progEnd) : ∃ w, fetchWord s = some w := by
  have hle := pc_add_four_le_progEnd h hpc
  have hr : s.inRange s.pc 4 := hle.trans h.2.1
  obtain ⟨u, hu, -⟩ := memRead_of_inRange (by decide) hr
  exact ⟨u.setWidth 32, by simp only [fetchWord, hu]⟩

/-- R38: pc + 4 is valid before the end of the program. -/
theorem pcValid_pc_add_four {s : State} (h : s.pcOk) (hpc : s.pc ≠ s.progEnd) : s.pcValid (s.pc + 4) := by
  have hle := pc_add_four_le_progEnd h hpc
  have hlt := s.progEnd.isLt
  obtain ⟨-, -, hmod, -⟩ := h
  have hadd : (s.pc + 4).toNat = s.pc.toNat + 4 := by
    rw [BitVec.toNat_add]
    exact Nat.mod_eq_of_lt (by simp; omega)
  rw [State.pcValid, hadd]
  omega

/-! ## Inert words and the halt -/

/-- R125 case 3: the inert vectors compute nothing and write only the pc. -/
theorem runInert_completes {s : State} {r : Record} {w : Word32} (hp : s.pcValid (s.pc + 4)) :
    ∃ L, runInert r w s = .next { s with pc := s.pc + 4, stage := .decode, lat := L } := by
  have hnext : runNext s r w inertVectors = s.pc + 4 := runNext_of_noBranch rfl rfl rfl
  obtain ⟨L, h⟩ := runWord_completes (s := s) (r := r) (w := w) (v := inertVectors) (fr := 0) (cr := false) (md := 0)
    (m := s.mem) rfl rfl rfl rfl (fun h => absurd h Bool.false_ne_true) (hnext.symm ▸ hp)
  refine ⟨L, h.trans ?_⟩
  simp only [runEnd, hnext]
  rfl

/-- Settles O12: the step of an inert word is the run of the inert vectors. -/
theorem inertWordOnlyAdvances : Obligations.InertWordOnlyAdvances := by
  intro s w r hready hpc hw hd hp
  obtain ⟨L, h⟩ := runInert_completes (r := r) (w := w) hp
  refine ⟨L, ?_⟩
  rw [step_of_fetchWord hready hpc hw, hd, runDecoded, h, ← hready.2.2]

theorem vectors_of_isHalting {i : Instr} (h : isHalting i = true) : vectors i = { cs := { halt := true } } := by
  cases i
  case mipsSyscall | rvEcall => rfl
  all_goals exact absurd h Bool.false_ne_true

/-- R241, R715: a halting instruction goes to pc + 4 and halts. -/
theorem goesTo_of_isHalting {i : Instr} (h : isHalting i = true) (s : State) :
    GoesTo i s { s with run := .halted } s (s.pc + 4) := by
  have hv := vectors_of_isHalting h
  have hgoes := goesTo_of_vectors (i := i) (s := s) (by rw [hv]) (by rw [hv]) (by rw [hv]) (by rw [hv])
    (runNext_of_noBranch (by rw [hv]) (by rw [hv]) (by rw [hv, fs0]))
  rwa [hv] at hgoes

/-- Settles O42: both are halting instructions, in a state of either set. -/
theorem haltingInstructions : Obligations.HaltingInstructions :=
  fun s => ⟨fun _ _ _ _ _ => goesTo_of_isHalting rfl s, fun _ _ _ => goesTo_of_isHalting rfl s⟩

/-- R241: a run halts only where its vectors say so. -/
theorem run_of_runWord {s t : State} {r : Record} {w : Word32} {v : Vectors} (h : runWord r w v s = .next t)
    (hv : v.cs.halt = false) : t.run = s.run := by
  rcases runWord_cases s r w v with ⟨fr, cr, md, m, L, -, -, -, hrun⟩ | ⟨stage, kind, d, m, L, hrun, -⟩
  · obtain rfl := Host.Outcome.next.inj (hrun.symm.trans h)
    simp [runEnd, hv]
  · obtain rfl := Host.Outcome.next.inj (hrun.symm.trans h)
    rfl

/-- Settles O22: the Decode tick halts at the end of the program, and elsewhere only a run with the halt signal does. -/
theorem haltConditions : Obligations.HaltConditions := by
  intro s hready
  refine ⟨step_of_pc_eq_progEnd hready, fun w i hok hpc hw hd hi => ?_, fun t ht hhalt => ?_⟩
  · obtain ⟨L, h⟩ := (goesTo_of_isHalting hi s).1 (pcValid_pc_add_four hok hpc)
    refine ⟨L, ?_⟩
    rw [stepRunsDecoded s w i hready hpc hw hd, h, ← hready.2.2]
  · rw [or_iff_not_imp_left]
    intro hpc
    have hrun : s.run ≠ .halted := fun h => hready.2.1 (Or.inr h)
    cases hw : fetchWord s with
    | none => simp [step_of_ready hready, stepDecode, hpc, hw] at ht
    | some w =>
      rw [step_of_fetchWord hready hpc hw] at ht
      cases hd : decode s.cfg.isa w with
      | unsupported op =>
        rw [hd, runDecoded] at ht
        obtain rfl := Host.Outcome.next.inj ht
        exact absurd hhalt hrun
      | inert r =>
        rw [hd] at ht
        exact absurd ((run_of_runWord ht rfl).symm.trans hhalt) hrun
      | instr i =>
        refine ⟨w, i, rfl, hd, ?_⟩
        by_contra hi
        rw [hd, runDecoded, exec_eq] at ht
        have hv : (vectors i).cs.halt = false := by rw [(vectorsOf_vectors i).halt]; exact Bool.eq_false_iff.mpr hi
        exact hrun ((run_of_runWord ht hv).symm.trans hhalt)

/-! ## Errors are precise (R708) -/

/-- R708: a raised error leaves everything but `data`, the record and the latches, also memory: a store, which writes memory
before Writeback, fails no check there. -/
theorem raised_of_exec {s t : State} {i : Instr} {e : ExecError} (hok : s.pcOk) (hpc : s.pc ≠ s.progEnd)
    (hnone : s.fault = none) (h : exec i s = .next t) (he : t.fault = some e) :
    ∃ stage kind d L, t = s.raised (encode i) stage kind d s.mem L := by
  rw [exec_eq] at h
  rcases runWord_cases s i.record (encode i) (vectors i) with
    ⟨fr, cr, md, m, L, -, -, -, hrun⟩ | ⟨stage, kind, d, m, L, hrun, hm⟩
  · obtain rfl := Host.Outcome.next.inj (hrun.symm.trans h)
    rw [runEnd_fault, hnone] at he
    exact absurd he (by simp)
  · obtain rfl := Host.Outcome.next.inj (hrun.symm.trans h)
    refine ⟨stage, kind, d, L, ?_⟩
    obtain rfl | ⟨⟨fr, cr, hm⟩, hfail⟩ := hm
    · rfl
    cases hst : isStore i with
    | false => rw [runStores_noWrite (memWrite_of_not_isStore hst) hm]
    | true =>
      obtain ⟨hw, hj, hb, hfb⟩ := (vectorsOf_vectors i).store hst
      rw [hw, runNext_of_noBranch hj hb hfb] at hfail
      exact absurd (pcValid_pc_add_four hok hpc) (hfail.resolve_left Bool.false_ne_true)

/-- Settles O18: the step of a ready machine either raises in Decode or runs a word, and a run raises precisely. -/
theorem errorIsPrecise : Obligations.ErrorIsPrecise := by
  intro s t e ⟨_, _, hok, _⟩ hready ht he
  have hnone : s.fault = none := by
    rw [← Option.not_isSome_iff_eq_none]
    exact fun h => hready.2.1 (Or.inl h)
  have hraised {w : Word32} {stage : Stage} {kind : ErrKind} {d : Word} {L : Latches}
      (h : t = s.raised w stage kind d s.mem L) :
      t = { s with data := t.data, stage := t.stage, fault := some e, lat := t.lat } ∧ e.pc = s.pc ∧ e.stage = t.stage := by
    subst h
    obtain rfl := Option.some.inj he
    exact ⟨rfl, rfl, rfl⟩
  by_cases hpc : s.pc = s.progEnd
  · rw [step_of_pc_eq_progEnd hready hpc] at ht
    obtain rfl := Host.Outcome.next.inj ht
    exact absurd (hnone.symm.trans he) (by simp)
  obtain ⟨w, hw⟩ := exists_fetchWord hok hpc
  rw [step_of_fetchWord hready hpc hw] at ht
  cases hd : decode s.cfg.isa w with
  | unsupported op =>
    rw [hd, runDecoded] at ht
    exact hraised (Host.Outcome.next.inj ht).symm
  | inert r =>
    obtain ⟨L, h⟩ := runInert_completes (r := r) (w := w) (pcValid_pc_add_four hok hpc)
    rw [hd, runDecoded, h] at ht
    obtain rfl := Host.Outcome.next.inj ht
    exact absurd (hnone.symm.trans he) (by simp)
  | instr i =>
    rw [hd, runDecoded] at ht
    obtain ⟨stage, kind, d, L, h⟩ := raised_of_exec hok hpc hnone ht he
    exact hraised h

end Sys2Proof.Machine
end

section
/-! PROOFS. The invariant that every step keeps (spec/10_state.md R32, R38 to R40, spec/20_memory.md R80): each stage keeps it,
whether it commits or raises. -/

namespace Sys2Proof.Machine

/-- What a step from a good state keeps: the state it answers is good, of the same parameters and the same program. -/
structure Keeps (s t : State) : Prop where
  inv : t.Inv
  cfg : t.cfg = s.cfg
  progEnd : t.progEnd = s.progEnd

theorem Keeps.trans {s t u : State} (h : Keeps s t) (h' : Keeps t u) : Keeps s u :=
  ⟨h'.inv, h'.cfg.trans h.cfg, h'.progEnd.trans h.progEnd⟩

/-- The invariant looks only at the parameters, memory, the pc, the end of the program and the stack pointer. -/
theorem keeps_of_eq {s t : State} (h : s.Inv) (hcfg : t.cfg = s.cfg) (hend : t.progEnd = s.progEnd) (hmem : t.memOk)
    (hpc : s.pcValid t.pc) (hsp : t.readX s.cfg.isa.spIndex = s.readX s.cfg.isa.spIndex ∨
      s.spValid (t.readX s.cfg.isa.spIndex)) : Keeps s t := by
  obtain ⟨hwf, -, ⟨hmod, hcap, -⟩, hspOk⟩ := h
  refine ⟨⟨?_, hmem, ⟨?_, ?_, ?_⟩, ?_⟩, hcfg, hend⟩
  · rwa [hcfg]
  · rwa [hend]
  · rwa [hend, hcfg]
  · rwa [State.pcValid, hend]
  · rw [State.spOk, State.spValid, hcfg]
    obtain heq | hvalid := hsp
    · rwa [heq]
    · exact hvalid

theorem keeps_of_frame {s t : State} (h : s.Inv) (hcfg : t.cfg = s.cfg) (hend : t.progEnd = s.progEnd)
    (hmem : t.mem = s.mem) (hpc : t.pc = s.pc) (hx : t.x = s.x) : Keeps s t := by
  obtain ⟨-, hmemOk, ⟨-, -, hpcOk⟩, -⟩ := id h
  refine keeps_of_eq h hcfg hend ?_ (hpc.symm ▸ hpcOk) (Or.inl (readX_congr hx _))
  rwa [State.memOk, hmem, hcfg]

theorem keeps_raise {s : State} (h : s.Inv) (k : ErrKind) (w : Word32) : Keeps s (s.raise k w) :=
  keeps_of_frame h rfl rfl rfl rfl rfl

/-- R80, R87: a store in range keeps memory canonical and within the capacity. -/
theorem memOk_of_storeValue {s : State} {k : MemWriteKind} {a v : Word} {m : Memory} (h : s.memOk)
    (hs : storeValue s k a v = .ok { s with mem := m }) : ({ s with mem := m } : State).memOk := by
  rcases storeValue_cases s k a v with ⟨-, hk⟩ | ⟨-, hr, hk⟩ | ⟨-, -, hk⟩
  · rw [← Except.ok.inj (hk.symm.trans hs)]
    exact h
  · rw [← Except.ok.inj (hk.symm.trans hs)]
    refine ⟨writeBytes_wf h.1 _ _, fun c hc => ?_⟩
    rcases mem_writeBytes hc with ⟨-, hlt⟩ | hc
    · rw [toBytes_length] at hlt
      exact hlt.trans_le hr
    · exact h.2 c hc
  · exact absurd (hk.symm.trans hs) (by simp)

/-- R236: a write of a general register that the check accepts leaves a valid stack pointer. -/
theorem spValid_setX {s : State} {i : RegIx} {v : Word} (hx : s.xWritable i v) :
    (s.setX i v).readX s.cfg.isa.spIndex = s.readX s.cfg.isa.spIndex ∨
      s.spValid ((s.setX i v).readX s.cfg.isa.spIndex) := by
  by_cases hi : s.cfg.isa.spIndex = i
  · rw [hi, readX_setX_self s (hi ▸ spIndex_ne_zero _)]
    exact Or.inr (hx hi.symm)
  · exact Or.inl (readX_setX_ne s hi v)

theorem keeps_fromWriteback {s : State} (h : s.Inv) : Keeps s (fromWriteback s) := by
  unfold fromWriteback
  rcases writebackStage_cases s with ⟨hx, hp, L, hok⟩ | ⟨-, -, herr⟩ | ⟨-, -, herr⟩
  · rw [hok]
    by_cases hw : s.lat.cs.regWrite = true
    · have hcommit : committed s = { s.setX (wbIndexNow s) (wbDataNow s) with
          f := (writeFloat s).f, cc := if s.lat.fs.ccWrite then s.lat.cmpResult else s.cc, pc := nextPc s
          run := if s.lat.cs.halt then .halted else s.run, stage := .decode } := by rw [committed, if_pos hw]
      simp only [hcommit]
      refine keeps_of_eq h (State.setX_cfg ..) (State.setX_progEnd ..) ?_ hp (spValid_setX (hx hw))
      simpa [State.memOk] using h.2.1
    · have hcommit : committed s = { s with
          f := (writeFloat s).f, cc := if s.lat.fs.ccWrite then s.lat.cmpResult else s.cc, pc := nextPc s
          run := if s.lat.cs.halt then .halted else s.run, stage := .decode } := by rw [committed, if_neg hw]
      simp only [hcommit]
      exact keeps_of_eq h rfl rfl h.2.1 hp (Or.inl rfl)
  · rw [herr]
    exact keeps_raise h _ _
  · rw [herr]
    exact keeps_raise h _ _

theorem keeps_fromMemory {s : State} (h : s.Inv) : Keeps s (fromMemory s) := by
  obtain ⟨-, hmem, ⟨-, -, hpc⟩, -⟩ := id h
  unfold fromMemory
  rcases memoryStage_cases s with ⟨md, m, -, hs, hok⟩ | ⟨n, -, herr⟩
  · rw [hok]
    have hcommit := keeps_of_eq (t := { s with
        mem := m, data := dataAfterMemory s.lat.cs.memRead s.lat.fs s.data md
        lat := { s.lat with memAddr := memAddrOf s, memData := md }, stage := .writeback })
      h rfl rfl (memOk_of_storeValue hmem hs) hpc (Or.inl rfl)
    exact hcommit.trans (keeps_fromWriteback hcommit.inv)
  · rw [herr]
    exact keeps_raise h _ _

theorem keeps_fromExecute {s : State} (h : s.Inv) : Keeps s (fromExecute s) := by
  unfold fromExecute
  rcases executeStage_cases s with ⟨fr, cr, -, -, hok⟩ | ⟨op, herr, -⟩
  · rw [hok]
    have hcommit := keeps_of_frame (t := { s with
        data := dataAfterExecute s.lat.fs s.data s.lat.gpFwd s.lat.fpA s.lat.fpB fr cr
        lat := executeLatches s fr cr, stage := .memory }) h rfl rfl rfl rfl rfl
    exact hcommit.trans (keeps_fromMemory hcommit.inv)
  · rw [herr]
    exact keeps_raise h _ _

theorem keeps_runWord {s : State} (h : s.Inv) (r : Record) (w : Word32) (v : Vectors) :
    ∃ t, runWord r w v s = .next t ∧ Keeps s t := by
  have hlatch : Keeps s (latchDecode r w v s) := keeps_of_frame h rfl rfl rfl rfl rfl
  exact ⟨_, rfl, hlatch.trans (keeps_fromExecute hlatch.inv)⟩

theorem keeps_runDecoded {s : State} (h : s.Inv) (d : Decoded) (w : Word32) :
    ∃ t, runDecoded d w s = .next t ∧ Keeps s t := by
  cases d with
  | instr i => rw [runDecoded, exec_eq]; exact keeps_runWord h _ _ _
  | inert r => exact keeps_runWord h r w inertVectors
  | unsupported op => exact ⟨_, rfl, keeps_raise h _ _⟩

theorem keeps_stepDecode {s : State} (h : s.Inv) : ∃ t, stepDecode s = .next t ∧ Keeps s t := by
  by_cases hpc : s.pc = s.progEnd
  · exact ⟨{ s with run := .halted }, by rw [stepDecode, if_pos hpc], keeps_of_frame h rfl rfl rfl rfl rfl⟩
  · obtain ⟨w, hw⟩ := exists_fetchWord h.2.2.1 hpc
    rw [stepDecode_of_fetchWord hpc hw]
    exact keeps_runDecoded h _ w

/-- Settles O21: from each stage on, the stages that remain keep the invariant; the fetch is in memory because the pc is before
the end of the program. -/
theorem stepKeepsInvariant : Obligations.StepKeepsInvariant := by
  intro s h
  suffices hkeeps : ∃ t, step s = .next t ∧ Keeps s t by
    obtain ⟨t, ht, hk⟩ := hkeeps
    exact ⟨t, ht, hk.inv, hk.cfg, hk.progEnd⟩
  by_cases hrun : s.stopped
  · exact ⟨s, step_of_stopped h.1 hrun, h, rfl, rfl⟩
  rw [step, if_neg (not_not_intro h.1), if_neg hrun, stepRest]
  cases s.stage with
  | decode => exact keeps_stepDecode h
  | execute => exact ⟨_, rfl, keeps_fromExecute h⟩
  | memory => exact ⟨_, rfl, keeps_fromMemory h⟩
  | writeback => exact ⟨_, rfl, keeps_fromWriteback h⟩

end Sys2Proof.Machine
end

section
/-! PROOFS. What each tick writes (spec/40_datapath.md R213 to R241), latch by latch, or the error it raises. -/

namespace Sys2Proof.Machine

/-! ## Decode (R213) -/

theorem decodeRecord_of_decode_eq_inert {isa : Isa} {w : Word32} {r : Record} (h : decode isa w = .inert r) :
    decodeRecord isa w = some r := by
  cases hr : decodeRecord isa w with
  | none => simp [decode_of_decodeRecord_eq_none hr] at h
  | some q =>
    cases hi : q.instr with
    | none => rw [← Decoded.inert.inj ((decode_of_instr_eq_none hr hi).symm.trans h)]
    | some i => simp [decode_of_instr hr hi] at h

/-- R213: the Decode tick of a word that does not raise latches it with its record, one of the instruction set, and its
vectors. -/
theorem tick_latchDecode {s : State} {w : Word32} {r : Record} {v : Vectors} (hready : s.ready) (hpc : s.pc ≠ s.progEnd)
    (hw : fetchWord s = some w)
    (hd : (∃ i, decode s.cfg.isa w = .instr i ∧ r = i.record ∧ v = vectors i) ∨
      (decode s.cfg.isa w = .inert r ∧ v = { cs := cs0, fs := fs0 })) :
    tick s = .next (latchDecode r w v s) ∧ r.fits s.cfg.isa = true := by
  rw [tick_of_ready hready, tickDecode_of_fetchWord hpc hw]
  obtain ⟨i, hd, rfl, rfl⟩ | ⟨hd, rfl⟩ := hd
  · rw [hd, ← (decode_eq_instr_iff.mp hd).2.1]
    exact ⟨rfl, fits_record i⟩
  · rw [hd]
    exact ⟨rfl, (decodeRecord_eq_some_iff.mp (decodeRecord_of_decode_eq_inert hd)).2⟩

/-- Settles O7: the slots and the forwarded value of the instruction set, 0 for a record of a format without the slot. -/
theorem decodeTickLatches : Obligations.DecodeTickLatches := by
  intro s w r v hready hpc hw hd
  obtain ⟨htick, hfits⟩ := tick_latchDecode hready hpc hw hd
  refine ⟨fun hisa => ?mips, fun hisa => ?rv⟩
  all_goals
    rw [hisa] at hfits
    rw [htick]
    simp only [latchDecode, readSlot1, readSlot2, slot1, slot2, forwarded, faSlot, fbSlot, readFc, hisa]
    cases r
  case mips.mipsR | mips.mipsI | mips.mipsJ => rfl
  case rv.rvR | rv.rvI | rv.rvS | rv.rvB | rv.rvU | rv.rvJ | rv.rvR4 => rfl
  all_goals exact absurd hfits (by simp [Record.fits])

/-! ## Execute (R220 to R228) -/

theorem fpuOp_defined_iff (op : FpuOp) : op.defined = true ↔ op ∈ [FpuOp.fpuNone, FpuOp.fAdd] := by
  cases op <;> decide

theorem cmpOp_defined_iff (op : CmpOp) : op.defined = true ↔ op ∈ [CmpOp.cmpNone, CmpOp.cmpEq] := by
  cases op <;> decide

/-- R226, R706: the coprocessor ALU computes what the completion or the source defines, and reports the rest. -/
theorem fpuAlu_eq (completion : FpuCompletion) (fs : FpuSignals) (a b c : Word) :
    fpuAlu completion fs a b c =
      if completion = .report ∧ fs.fpuOp ∉ [FpuOp.fpuNone, FpuOp.fAdd] then .error (.unimplementedFpuOp (.fpu fs.fpuOp))
      else .ok (fpuFunction fs.fpuOp fs.width fs.round a b c) := by
  simp only [fpuAlu, ← fpuOp_defined_iff]
  cases completion <;> cases fs.fpuOp.defined <;> rfl

/-- R227, R706: the comparator computes what the completion or the source defines, and reports the rest. -/
theorem comparator_eq (completion : FpuCompletion) (fs : FpuSignals) (a b : Word) :
    comparator completion fs a b =
      if completion = .report ∧ fs.cmpOp ∉ [CmpOp.cmpNone, CmpOp.cmpEq] then .error (.unimplementedFpuOp (.cmp fs.cmpOp))
      else .ok (cmpFunction fs.cmpOp fs.width a b) := by
  simp only [comparator, ← cmpOp_defined_iff]
  cases completion <;> cases fs.cmpOp.defined <;> rfl

/-- R223: the model writes the cleared bit as a concatenation. -/
theorem clearBit0_eq (v : Word) : clearBit0 v = v &&& ~~~1#64 := by
  apply BitVec.eq_of_getLsbD_eq
  intro i hi
  rw [clearBit0, BitVec.getLsbD_append, BitVec.getLsbD_and, BitVec.getLsbD_not, BitVec.getLsbD_one]
  cases i with
  | zero => simp
  | succ i => simp [hi, Nat.lt_of_succ_lt_succ hi, Nat.add_comm]

/-- R222: two bits to the left is four times. -/
theorem branchTargetOf_mips64l (pc imm : Word) : branchTargetOf .mips64l pc imm = pc + 4 + imm * 4 :=
  congrArg (pc + 4 + ·) (BitVec.shiftLeft_eq_mul_twoPow imm 2)

theorem branchTargetOf_rv64l (pc imm : Word) : branchTargetOf .rv64l pc imm = pc + imm := rfl

theorem mainTakenOf_iff (b : BranchKind) (result : Word) :
    mainTakenOf b (zeroFlag result) = true ↔
      b ∈ [.beq, .bge, .bgeu] ∧ result = 0 ∨ b ∈ [.bne, .blt, .bltu] ∧ result ≠ 0 := by
  cases b <;> simp [mainTakenOf, zeroFlag]

theorem fpuTakenOf_iff (b : FpuBranch) (cc : Bool) :
    fpuTakenOf b cc = true ↔ b = .onTrue ∧ cc = true ∨ b = .onFalse ∧ cc = false := by
  cases b <;> simp [fpuTakenOf]

/-- Settles O8: the errors come from the coprocessor's ALU and then its comparator; each latch is a function of the latches
before, written there as in the model's own definitions of the multiplexers. -/
theorem executeTick : Obligations.ExecuteTick := by
  intro s hwf hrun hstage cs fs ir undefinedOp undefinedCmp failed
  have htick := tick_execute hwf hrun hstage
  have hraise (k : ErrKind) : s.raise k ir =
      { s with fault := some { kind := k, pc := s.pc, word := ir, stage := .execute } } := by rw [State.raise, hstage]
  unfold executeStage at htick
  rw [fpuAlu_eq, comparator_eq] at htick
  refine ⟨fun hop => ?_, fun hop hcmp => ?_, fun hop hcmp => ?_⟩
  · rw [if_pos hop] at htick
    exact htick.trans (congrArg _ (hraise _))
  · rw [if_neg hop, if_pos hcmp] at htick
    exact htick.trans (congrArg _ (hraise _))
  rw [if_neg hop, if_neg hcmp] at htick
  intro a b c w m
  refine ⟨_, executeLatches s (fpuFunction fs.fpuOp w m a b c) (cmpFunction fs.cmpOp w a b), htick, ?imm, ?op1, ?op2, rfl,
    beq_iff_eq, ?branchTarget, ?jumpTarget, mainTakenOf_iff _ _, fpuTakenOf_iff _ _, Bool.or_eq_true_iff, ?fpuResult,
    ?cmpResult, ?data⟩
  case imm => cases hisa : s.cfg.isa <;> cases hform : s.lat.cs.immForm <;>
      simp only [executeLatches, immOf, immGen, immGenMips, immGenRv, hisa, hform, ir]
  case op1 => cases h : s.lat.cs.op1Src <;> simp only [executeLatches, op1Of, selectOp1, h]
  case op2 => cases h : s.lat.cs.op2Src <;> simp only [executeLatches, op2Of, selectOp2, h]
  case branchTarget =>
    cases h : s.cfg.isa <;> simp only [executeLatches, branchTargetOf_mips64l, branchTargetOf_rv64l, h]
  case jumpTarget =>
    cases h : s.lat.cs.jump <;> simp only [executeLatches, jumpTargetOf, regionTarget, clearBit0_eq, h, ir]
  case fpuResult => cases s.lat.fs.fpuOp <;> rfl
  case cmpResult => cases s.lat.fs.cmpOp <;> rfl
  case data =>
    show dataAfterExecute fs _ _ _ _ _ _ = _
    cases h : s.lat.fs.dataSrc <;> simp only [dataAfterExecute, fs, h] <;> rfl

/-! ## Memory (R230 to R233) -/

/-- R84, R231: the value a load of a kind at `a` brings, 0 where nothing is loaded. -/
def loadedValue (s : State) (k : MemReadKind) (a : Word) : Word :=
  match k with
  | .noRead => 0
  | .b => (loadedBits s a 1).signExtend 64
  | .bu => (loadedBits s a 1).setWidth 64
  | .h => (loadedBits s a 2).signExtend 64
  | .hu => (loadedBits s a 2).setWidth 64
  | .w => (loadedBits s a 4).signExtend 64
  | .wu => (loadedBits s a 4).setWidth 64
  | .d => (loadedBits s a 8).setWidth 64

theorem setWidth_loadedBits (s : State) (a : Word) {n : Nat} (hn : n ≤ 8) :
    (loadedBits s a n).setWidth 64 = BitVec.ofNat 64 (ofBytes s.cfg.byteOrder (s.mem.readBytes a.toNat n)) := by
  apply BitVec.eq_of_toNat_eq
  rw [toNat_ofNat_ofBytes_readBytes _ _ _ hn, BitVec.toNat_setWidth_of_le (by omega), loadedBits, BitVec.toNat_ofNat,
    Nat.mod_eq_of_lt (ofBytes_readBytes_lt _ _ _ _)]

theorem setWidth_setWidth_loadedBits (s : State) (a : Word) {n : Nat} (hn : n ≤ 8) :
    ((loadedBits s a n).setWidth 64).setWidth (8 * n) = loadedBits s a n := by
  rw [BitVec.setWidth_setWidth_of_le _ (by omega), BitVec.setWidth_eq]

/-- R84, R86: the model extends the zero-extended value of the access. -/
theorem extend_memRead (s : State) (k : MemReadKind) (a : Word) :
    k.extend (BitVec.ofNat 64 (ofBytes s.cfg.byteOrder (s.mem.readBytes a.toNat k.width))) = loadedValue s k a := by
  have hn : k.width ≤ 8 := by cases k <;> decide
  rw [← setWidth_loadedBits s a hn]
  cases k
  case noRead => rfl
  case b | h | w => exact congrArg (BitVec.signExtend 64) (setWidth_setWidth_loadedBits s a hn)
  all_goals rfl

/-- R85, R231: a load in range, or none, brings its value. -/
theorem loadValue_ok {s : State} {k : MemReadKind} {a : Word} (h : k ≠ .noRead → s.inRange a k.width) :
    loadValue s k a = .ok (loadedValue s k a) := by
  unfold loadValue
  split
  case isTrue hk => rw [hk]; rfl
  case isFalse hk =>
    rw [((memRead_cases s a k.width).resolve_right fun e => e.1 (h hk)).2]
    exact congrArg _ (extend_memRead s k a)

theorem loadValue_error {s : State} {k : MemReadKind} {a : Word} (hk : k ≠ .noRead) (h : ¬ s.inRange a k.width) :
    loadValue s k a = .error (.outOfBounds a k.width) := by
  rw [loadValue, if_neg hk, memRead_of_not_inRange h]

/-- R87, R232: a store in range stores, and none leaves the memory. -/
theorem storeValue_ok {s : State} {k : MemWriteKind} {a v : Word} (h : k ≠ .noWrite → s.inRange a k.width) :
    ∃ m, storeValue s k a v = .ok { s with mem := m } ∧ (k = .noWrite → m = s.mem) ∧
      (k ≠ .noWrite → StoredIn s m a k.width v) := by
  unfold storeValue
  split
  case isTrue hk => exact ⟨s.mem, rfl, fun _ => rfl, (absurd hk ·)⟩
  case isFalse hk =>
    obtain ⟨m, hm, hstored⟩ := memWrite_of_inRange v (h hk)
    exact ⟨m, hm, (absurd · hk), fun _ => hstored⟩

theorem storeValue_outOfBounds {s : State} {k : MemWriteKind} {a v : Word} (hk : k ≠ .noWrite) (h : ¬ s.inRange a k.width) :
    storeValue s k a v = .error (.outOfBounds a k.width) := by
  rw [storeValue, if_neg hk, memWrite_of_not_inRange v h]

/-- Settles O9: the load's error comes first, then the store's. -/
theorem memoryTick : Obligations.MemoryTick := by
  intro s hwf hrun hstage a loads n stores k failed
  have htick := tick_memory hwf hrun hstage
  have hraise (e : ErrKind) : s.raise e s.lat.ir =
      { s with fault := some { kind := e, pc := s.pc, word := s.lat.ir, stage := .memory } } := by rw [State.raise, hstage]
  have hn : n = s.lat.cs.memRead.width := by simp only [n]; cases s.lat.cs.memRead <;> rfl
  have hk : k = s.lat.cs.memWrite.width := by simp only [k]; cases s.lat.cs.memWrite <;> rfl
  rw [hn, hk]
  have haddr : memAddrOf s = a := rfl
  rw [memoryStage, haddr] at htick
  refine ⟨fun hl hr => ?_, fun hl hs hr => ?_, fun hl hs => ?_⟩
  · rw [loadValue_error hl hr] at htick
    exact htick.trans (congrArg _ (hraise _))
  · rw [loadValue_ok hl, storeValue_outOfBounds hs hr] at htick
    exact htick.trans (congrArg _ (hraise _))
  · obtain ⟨m, hstore, hkept, hstored⟩ := storeValue_ok hs
    intro loaded v
    have hloaded : loadedValue s s.lat.cs.memRead a = loaded := by simp only [loaded]; cases s.lat.cs.memRead <;> rfl
    rw [loadValue_ok hl, hloaded, hstore] at htick
    refine ⟨m, htick.trans ?_, fun h => hkept (not_not.mp h), hstored⟩
    rfl

/-! ## Writeback (R235 to R241) -/

theorem wbIndexOf_eq (isa : Isa) (dst : RegDst) (w : Word32) :
    wbIndexOf isa dst w =
      match isa, dst with
      | .mips64l, .rs1Slot => w.extractLsb' 21 5 | .mips64l, .rs2Slot => w.extractLsb' 16 5
      | .mips64l, .rdSlot => w.extractLsb' 11 5
      | .rv64l, .rs1Slot => w.extractLsb' 15 5 | .rv64l, .rs2Slot => w.extractLsb' 20 5
      | .rv64l, .rdSlot => w.extractLsb' 7 5
      | _, .link => 31 := by
  cases isa <;> cases dst <;> rfl

theorem fpuDst_eq (isa : Isa) (dst : FpuRegDst) (w : Word32) :
    fpuDst isa dst w =
      match isa, dst with
      | .mips64l, .fdSlot => w.extractLsb' 6 5 | .mips64l, .fsSlot => w.extractLsb' 11 5
      | .mips64l, .ftSlot => w.extractLsb' 16 5
      | .rv64l, .fdSlot => w.extractLsb' 7 5 | .rv64l, .fsSlot => w.extractLsb' 15 5
      | .rv64l, .ftSlot => w.extractLsb' 20 5 := by
  cases isa <;> cases dst <;> rfl

theorem writeGeneral_ok {s : State} (hw : s.lat.cs.regWrite = true) (hx : s.xWritable (wbIndexNow s) (wbDataNow s)) :
    writeGeneral s = .ok { s.setX (wbIndexNow s) (wbDataNow s) with
      lat := { s.lat with wbIndex := wbIndexNow s, wbData := wbDataNow s } } := by
  rw [writeGeneral, if_pos hw, writeX_ok hx]
  simp only [State.setX_lat]

theorem writeGeneral_error {s : State} (hw : s.lat.cs.regWrite = true) (hx : ¬ s.xWritable (wbIndexNow s) (wbDataNow s)) :
    writeGeneral s = .error (.invalidValue (.x (wbIndexNow s)) (wbDataNow s)) := by
  rw [writeGeneral, if_pos hw, writeX_error hx]

theorem writeGeneral_of_not_regWrite {s : State} (hw : s.lat.cs.regWrite = false) : writeGeneral s = .ok s := by
  rw [writeGeneral, hw]
  rfl

/-- R236, R237: the state after a general register write. -/
def afterWriteGeneral (s : State) : State :=
  if s.lat.cs.regWrite then
    { s.setX (wbIndexNow s) (wbDataNow s) with lat := { s.lat with wbIndex := wbIndexNow s, wbData := wbDataNow s } }
  else s

theorem writeGeneral_eq_afterWriteGeneral {s : State}
    (hx : s.lat.cs.regWrite = true → s.xWritable (wbIndexNow s) (wbDataNow s)) :
    writeGeneral s = .ok (afterWriteGeneral s) := by
  unfold afterWriteGeneral
  split
  case isTrue hw => exact writeGeneral_ok hw (hx hw)
  case isFalse hw => exact writeGeneral_of_not_regWrite (Bool.eq_false_of_not_eq_true hw)

/-- R238 to R241: after the general register write the stage commits the rest, or raises at the pc. -/
theorem writebackStage_eq {s : State} (hx : s.lat.cs.regWrite = true → s.xWritable (wbIndexNow s) (wbDataNow s)) :
    writebackStage s =
      if s.pcValid (nextPc s) then
        .ok { afterWriteGeneral s with
          f := (writeFloat s).f
          cc := if s.lat.fs.ccWrite then s.lat.cmpResult else s.cc
          pc := nextPc s
          run := if s.lat.cs.halt then .halted else s.run
          stage := .decode }
      else .error (.invalidValue .pc (nextPc s)) := by
  have hfix : (afterWriteGeneral s).progEnd = s.progEnd ∧ (afterWriteGeneral s).lat.cs = s.lat.cs ∧
      (afterWriteGeneral s).lat.fs = s.lat.fs ∧ (afterWriteGeneral s).lat.cmpResult = s.lat.cmpResult ∧
      (afterWriteGeneral s).cc = s.cc ∧ (afterWriteGeneral s).run = s.run ∧
      (writeFloat (afterWriteGeneral s)).f = (writeFloat s).f := by
    unfold afterWriteGeneral
    split <;> simp [writeFloat]
    split <;> simp [State.writeF, State.setF]
  obtain ⟨hend, hcs, hfs, hcmp, hcc, hrun, hf⟩ := hfix
  have hpc : (writeCc (writeFloat (afterWriteGeneral s))).pcValid (nextPc s) ↔ s.pcValid (nextPc s) := by
    rw [State.pcValid, writeCc_progEnd, writeFloat_progEnd, hend]
  rw [writebackStage, writeGeneral_eq_afterWriteGeneral hx]
  dsimp only
  by_cases hp : s.pcValid (nextPc s)
  · rw [if_pos hp, ((writePc_cases _ _).resolve_right fun h => h.1 (hpc.mpr hp)).2]
    simp only [writeRun, writeCc, writeFloat_lat, writeFloat_cfg, writeFloat_x, writeFloat_progEnd, writeFloat_cc,
      writeFloat_data, writeFloat_mem, writeFloat_run, writeFloat_fault, hcs, hfs, hcmp, hcc, hrun, hf]
  · rw [if_neg hp, ((writePc_cases _ _).resolve_left fun h => hp (hpc.mp h.1)).2]

/-- Settles O10: the stack pointer's error comes first, then the pc's. -/
theorem writebackTick : Obligations.WritebackTick := by
  intro s hwf hrun hstage cs fs ir rd v fd fv fstored next failed
  have htick := tick_writeback hwf hrun hstage
  have hraise (e : ErrKind) : s.raise e s.lat.ir =
      { s with fault := some { kind := e, pc := s.pc, word := s.lat.ir, stage := .writeback } } := by rw [State.raise, hstage]
  have hrd : wbIndexNow s = rd := wbIndexOf_eq _ _ _
  have hv : wbDataNow s = v := by
    simp only [wbDataNow, wbDataOf, v, fs, cs]
    cases s.lat.fs.width <;> rfl
  have hnext : nextPc s = next := by
    simp only [nextPc, nextPcOf, next, cs, ite_not]
  rw [← hrd, ← hv, ← hnext]
  refine ⟨fun hw hx => ?_, fun hx hp => ?_, fun hx hp => ?_⟩
  · rw [writebackStage, writeGeneral_error hw hx] at htick
    exact htick.trans (congrArg _ (hraise _))
  · rw [writebackStage_eq hx, if_neg hp] at htick
    exact htick.trans (congrArg _ (hraise _))
  · rw [writebackStage_eq hx, if_pos hp] at htick
    refine ⟨afterWriteGeneral s, htick.trans ?_, fun hw => if_pos hw, fun hw => if_neg (Bool.eq_false_iff.mp hw)⟩
    have hf : (writeFloat s).f = if fs.fpuRegWrite then (s.setF fd fstored).f else s.f := by
      rw [writeFloat, fpuDst_eq, apply_ite State.f]
      rfl
    rw [commitStage, hf]

end Sys2Proof.Machine
end

section
/-! PROOFS. The host's ports and the program load (spec/40_datapath.md R250, R251, spec/20_memory.md R99,
spec/70_reset_and_hazards.md R752, R760). -/

namespace Sys2Proof.Machine

/-! ## The ports -/

theorem writeRegister_of_not_decode {s : State} (h : s.stage ≠ .decode) (id : RegIdent) (v : Word) :
    writeRegister s id v = .error .inFlight := if_pos h

theorem writeFloatPort_of_not_decode {s : State} (h : s.stage ≠ .decode) (i : RegIx) (v : Word) :
    writeFloatPort s i v = .error .inFlight := if_pos h

theorem writeMemory_of_not_decode {s : State} (h : s.stage ≠ .decode) (width : HostWidth) (a v : Word) :
    writeMemory s width a v = .error .inFlight := if_pos h

section AtDecode
variable {s : State} (h : s.stage = .decode)
include h

theorem writeRegister_zero (v : Word) : writeRegister s (.x 0) v = .error (.error (.immutableRegister (.x 0))) := by
  simp [writeRegister, h]

theorem writeRegister_x_ok {i : RegIx} {v : Word} (hi : i ≠ 0) (hv : s.xWritable i v) :
    writeRegister s (.x i) v = .ok (s.setX i v) := by
  rw [writeRegister, if_neg (not_not_intro h), if_neg hi, if_pos hv]

theorem writeRegister_x_error {i : RegIx} {v : Word} (hi : i ≠ 0) (hv : ¬ s.xWritable i v) :
    writeRegister s (.x i) v = .error (.error (.invalidValue (.x i) v)) := by
  rw [writeRegister, if_neg (not_not_intro h), if_neg hi, if_neg hv]

theorem writeRegister_pc_ok {v : Word} (hv : s.pcValid v) : writeRegister s .pc v = .ok { s with pc := v } := by
  rw [writeRegister, if_neg (not_not_intro h), if_pos hv]

theorem writeRegister_pc_error {v : Word} (hv : ¬ s.pcValid v) :
    writeRegister s .pc v = .error (.error (.invalidValue .pc v)) := by
  rw [writeRegister, if_neg (not_not_intro h), if_neg hv]

theorem writeFloatPort_of_decode (i : RegIx) (v : Word) : writeFloatPort s i v = .ok (s.setF i v) :=
  if_neg (not_not_intro h)

theorem writeMemory_ok {width : HostWidth} {a v : Word} {t : State} (hw : s.memWrite a width.bytes v = .ok t) :
    writeMemory s width a v = .ok t := by
  rw [writeMemory, if_neg (not_not_intro h), hw]

theorem writeMemory_error {width : HostWidth} {a v : Word} {k : ErrKind} (hw : s.memWrite a width.bytes v = .error k) :
    writeMemory s width a v = .error (.error k) := by
  rw [writeMemory, if_neg (not_not_intro h), hw]

end AtDecode

/-- A write of a general register changes the register file alone. -/
theorem setX_eq_with_x (s : State) (i : RegIx) (v : Word) : s.setX i v = { s with x := (s.setX i v).x } := by
  unfold State.setX
  split <;> rfl

/-- Settles O29: every write at Decode is the bare write behind its checks. -/
theorem registerPortWrite : Obligations.RegisterPortWrite := by
  intro s v
  refine ⟨readX_zero s, fun hstage => ⟨writeRegister_zero hstage v, fun hsp => ?sp, fun i hi hsp => ?other,
    writeRegister_pc_ok hstage, writeRegister_pc_error hstage⟩, fun hstage id i width a =>
    ⟨writeRegister_of_not_decode hstage id v, writeFloatPort_of_not_decode hstage i v,
      writeMemory_of_not_decode hstage width a v⟩⟩
  case sp => exact writeRegister_x_error hstage (spIndex_ne_zero _) fun h => hsp (h rfl)
  case other =>
    exact ⟨s.setX i v, writeRegister_x_ok hstage hi hsp, setX_eq_with_x s i v, readX_setX_self s hi v,
      fun j hj => readX_setX_ne s hj v⟩

/-- Settles O30: the memory ports are the checked accesses of R86 and R87. -/
theorem hostPorts : Obligations.HostPorts := by
  intro s i a v width n
  have hn : n = width.bytes := by cases width <;> rfl
  have hn8 : width.bytes ≤ 8 := by cases width <;> decide
  rw [hn]
  refine ⟨rfl, rfl, rfl, rfl, fun hr => ?read, fun hr => ?readError, decide_eq_true_iff, rfl,
    fun hstage => ⟨?writeFloat, fun hr => ?write, fun hr => ?writeError⟩⟩
  case read =>
    obtain ⟨u, hu, hlt, hbytes⟩ := memRead_of_inRange hn8 hr
    exact ⟨u, by rw [readMemory, hu], hlt, hbytes⟩
  case readError => rw [readMemory, memRead_of_not_inRange hr]
  case writeFloat =>
    refine ⟨s.setF i v, writeFloatPort_of_decode hstage i v, rfl, ?_, fun j hj => ?_⟩
    · rw [readF_setF, if_pos rfl]
    · rw [readF_setF, if_neg hj]
  case write =>
    obtain ⟨m, hm, hstored⟩ := memWrite_of_inRange v hr
    exact ⟨m, writeMemory_ok hstage hm, hstored⟩
  case writeError => exact writeMemory_error hstage (memWrite_of_not_inRange v hr)

/-! ## The program load (R752) -/

theorem readBytes_congr {m m' : Memory} {a n : Nat} (h : ∀ b, a ≤ b → b < a + n → m.read b = m'.read b) :
    m.readBytes a n = m'.readBytes a n := by
  induction n generalizing a with
  | zero => rfl
  | succ n ih =>
    rw [Memory.readBytes, Memory.readBytes, h a (by omega) (by omega), ih fun b h1 h2 => h b (by omega) (by omega)]

theorem read_storeWords_outside (o : ByteOrder) (ws : List Word32) {m : Memory} {a b : Nat}
    (h : b < a ∨ a + 4 * ws.length ≤ b) : (storeWords o m a ws).read b = m.read b := by
  induction ws generalizing m a with
  | nil => rfl
  | cons w ws ih =>
    rw [List.length_cons] at h
    rw [storeWords, ih (by omega), read_writeBytes_outside m (by rw [toBytes_length]; omega)]

/-- R752: each word of the program stands in its four bytes: those stored after it lie above. -/
theorem readBytes_storeWords (o : ByteOrder) (ws : List Word32) (m : Memory) (a k : Nat) (hk : k < ws.length) :
    (storeWords o m a ws).readBytes (a + 4 * k) 4 = toBytes o 4 ws[k].toNat := by
  induction ws generalizing m a k with
  | nil => exact absurd hk (Nat.not_lt_zero k)
  | cons w ws ih =>
    cases k with
    | zero =>
      have hlen : (toBytes o 4 w.toNat).length = 4 := toBytes_length o 4 _
      have hwritten := readBytes_writeBytes m a (toBytes o 4 w.toNat)
      rw [hlen] at hwritten
      exact (readBytes_congr fun b _ hb => read_storeWords_outside o ws (.inl hb)).trans hwritten
    | succ k =>
      have := ih (m.writeBytes a (toBytes o 4 w.toNat)) (a + 4) k (Nat.lt_of_succ_lt_succ hk)
      rwa [Nat.add_assoc, Nat.add_comm 4, ← Nat.mul_succ] at this

/-- A fetch is the four bytes at the pc, assembled. -/
theorem fetchWord_of_readBytes {s : State} {w : Word32} (hr : s.inRange s.pc 4)
    (hb : s.mem.readBytes s.pc.toNat 4 = toBytes s.cfg.byteOrder 4 w.toNat) : fetchWord s = some w := by
  have hread := ((memRead_cases s s.pc 4).resolve_right fun h => h.1 hr).2
  rw [hb, ofBytes_toBytes, Nat.mod_eq_of_lt (show w.toNat < 256 ^ 4 from w.isLt)] at hread
  rw [fetchWord, hread]
  simp

/-- R752: the machine a successful load leaves. -/
def afterLoad (s : State) (words : List Word32) (start : Word) : State :=
  { State.resetWith s.cfg with
    mem := storeWords s.cfg.byteOrder [] 0 words
    progEnd := BitVec.ofNat 64 (4 * words.length)
    pc := start }

theorem load_eq_afterLoad {s : State} {words : List Word32} {start : Word} (hlen : 4 * words.length ≤ s.cfg.memCapacity)
    (hmod : start.toNat % 4 = 0) (hend : start.toNat ≤ 4 * words.length) :
    load s words start = .ok (afterLoad s words start) := by
  rw [load, if_neg (Nat.not_lt.mpr hlen), if_neg (by omega)]
  rfl

/-- Settles O31: by the three branches of `load`. -/
theorem loadPlacesProgram : Obligations.LoadPlacesProgram := by
  intro s words start hwf
  refine ⟨fun h => if_pos h, fun hlen hstart => ?bad, fun hlen hmod hend => ?ok⟩
  case bad =>
    rw [load, if_neg (Nat.not_lt.mpr hlen), if_pos hstart]
  case ok =>
    have hcap : s.cfg.memCapacity < 2 ^ 64 := by have := hwf; unfold Config.wf at this; omega
    refine ⟨afterLoad s words start, load_eq_afterLoad hlen hmod hend, rfl, fun k hk => ?fetch, fun a ha => ?zeros⟩
    case zeros => exact read_storeWords_outside s.cfg.byteOrder words (m := []) (.inr (by omega))
    case fetch =>
      have haddr : (BitVec.ofNat 64 (4 * k)).toNat = 4 * k := by
        rw [BitVec.toNat_ofNat]
        exact Nat.mod_eq_of_lt (by omega)
      have hb := readBytes_storeWords s.cfg.byteOrder words [] 0 k hk
      rw [Nat.zero_add, ← haddr] at hb
      refine fetchWord_of_readBytes (?_ : _ ≤ s.cfg.memCapacity) hb
      rw [haddr]
      omega

end Sys2Proof.Machine
end

section
/-! PROOFS. The integer instructions (spec/41_mips_integer.md, spec/44_rv_integer.md): an instruction that writes the ALU's
result is settled by the shape of its operands and the value of its operation. -/

namespace Sys2Proof.Machine

/-! ## The ALU's values in the words of the instructions (R191 to R199) -/

section
variable (a b : Word)

theorem alu_add32 : alu .add32 a b = sext32 (a + b) := congrArg ext32 (BitVec.setWidth_add a b (by decide)).symm

theorem alu_sub32 : alu .sub32 a b = sext32 (a - b) := by
  refine congrArg ext32 (Eq.symm ?_)
  rw [BitVec.sub_eq_add_neg, BitVec.setWidth_add _ _ (by decide), BitVec.setWidth_neg_of_le (by decide),
    ← BitVec.sub_eq_add_neg]
  rfl

theorem alu_mul64 : alu .mul64 a b = a * b := (BitVec.mul_def).symm

theorem alu_mul32 : alu .mul32 a b = sext32 (a * b) :=
  congrArg ext32 (BitVec.mul_def.symm.trans (BitVec.setWidth_mul a b (by decide)).symm)

theorem alu_mulh64 : alu .mulh64 a b = BitVec.ofInt 64 (a.toInt * b.toInt / 2 ^ 64) := highHalf_eq_ofInt 64 _

theorem alu_mulhsu64 : alu .mulhsu64 a b = BitVec.ofInt 64 (a.toInt * (b.toNat : Int) / 2 ^ 64) := highHalf_eq_ofInt 64 _

theorem alu_mulhu64 : alu .mulhu64 a b = BitVec.ofNat 64 (a.toNat * b.toNat / 2 ^ 64) := highHalf_unsigned a b

theorem alu_mulh32 : alu .mulh32 a b =
    (BitVec.ofInt 32 ((a.setWidth 32).toInt * (b.setWidth 32).toInt / 2 ^ 32)).signExtend 64 :=
  congrArg ext32 (highHalf_eq_ofInt 32 _)

theorem alu_mulhu32 : alu .mulhu32 a b =
    (BitVec.ofNat 32 ((a.setWidth 32).toNat * (b.setWidth 32).toNat / 2 ^ 32)).signExtend 64 :=
  congrArg ext32 (highHalf_unsigned (low32 a) (low32 b))

theorem alu_slt : alu .slt a b = if a.toInt < b.toInt then 1 else 0 := by simp only [alu, boolWord, decide_eq_true_eq]

theorem alu_sltu : alu .sltu a b = if a.toNat < b.toNat then 1 else 0 := by simp only [alu, boolWord, decide_eq_true_eq]

theorem alu_sra64 (n : BitVec 6) : alu (.sra64 n) a b = BitVec.ofInt 64 (a.toInt / 2 ^ n.toNat) :=
  sshiftRight_eq_ofInt a n.toNat

theorem alu_sll32 (n : BitVec 5) : alu (.sll32 n) a b = sext32 (a <<< n.toNat) :=
  congrArg ext32 (BitVec.setWidth_shiftLeft_of_le (by decide)).symm

theorem alu_sra32 (n : BitVec 5) : alu (.sra32 n) a b = BitVec.ofInt 64 ((a.setWidth 32).toInt / 2 ^ n.toNat) :=
  congrArg (BitVec.ofInt 64) (toInt_sshiftRight_eq_div (low32 a) n.toNat)

/-- R195: the low six bits of an amount are the amount modulo 64. -/
theorem toNat_extractLsb'_six : (b.extractLsb' 0 6).toNat = b.toNat % 64 := by simp

theorem toNat_extractLsb'_five : (b.extractLsb' 0 5).toNat = b.toNat % 32 := by simp

theorem alu_sllV64 : alu .sllV64 a b = a <<< (b.toNat % 64) := by rw [alu, toNat_extractLsb'_six]

theorem alu_srlV64 : alu .srlV64 a b = a >>> (b.toNat % 64) := by rw [alu, toNat_extractLsb'_six]

theorem alu_sraV64 : alu .sraV64 a b = BitVec.ofInt 64 (a.toInt / 2 ^ (b.toNat % 64)) := by
  rw [alu, toNat_extractLsb'_six, sshiftRight_eq_ofInt]

theorem alu_sllV32 : alu .sllV32 a b = sext32 (a <<< (b.toNat % 32)) := by
  rw [alu, toNat_extractLsb'_five]
  exact congrArg ext32 (BitVec.setWidth_shiftLeft_of_le (by decide)).symm

theorem alu_srlV32 : alu .srlV32 a b = ((a.setWidth 32) >>> (b.toNat % 32)).signExtend 64 := by
  rw [alu, toNat_extractLsb'_five]
  rfl

theorem alu_sraV32 : alu .sraV32 a b = BitVec.ofInt 64 ((a.setWidth 32).toInt / 2 ^ (b.toNat % 32)) := by
  rw [alu, toNat_extractLsb'_five]
  exact congrArg (BitVec.ofInt 64) (toInt_sshiftRight_eq_div (low32 a) _)

end

section
variable {n : Nat} (a b : BitVec n)

/-- The overflow case of R197 is the one in which `BitVec.sdiv` wraps. -/
theorem divSigned_eq : divSigned a b = if b = 0 then BitVec.allOnes n else a.sdiv b := by
  unfold divSigned
  split
  case isTrue => rfl
  case isFalse hb =>
    split
    case isTrue h => rw [h.1, h.2, ← BitVec.neg_one_eq_allOnes, BitVec.intMin_sdiv_neg_one]
    case isFalse => exact BitVec.eq_of_toInt_eq (by rw [BitVec.toInt_ofInt, BitVec.toInt_sdiv])

theorem remSigned_eq : remSigned a b = if b = 0 then a else a.srem b := by
  rw [remSigned_eq_srem]
  split
  case isTrue hb => rw [hb]; exact BitVec.srem_zero
  case isFalse => rfl

theorem divUnsigned_eq : divUnsigned a b = if b = 0 then BitVec.allOnes n else a / b := by
  unfold divUnsigned
  rw [← BitVec.toNat_udiv, BitVec.ofNat_toNat, BitVec.setWidth_eq]

theorem remUnsigned_eq : remUnsigned a b = a % b := by
  rw [remUnsigned_eq_ofNat, ← BitVec.toNat_umod, BitVec.ofNat_toNat, BitVec.setWidth_eq]

end

theorem alu_div64 (a b : Word) : alu .div64 a b = if b = 0 then BitVec.allOnes 64 else a.sdiv b := divSigned_eq a b

theorem alu_rem64 (a b : Word) : alu .rem64 a b = if b = 0 then a else a.srem b := remSigned_eq a b

theorem alu_divu64 (a b : Word) : alu .divu64 a b = if b = 0 then BitVec.allOnes 64 else a / b := divUnsigned_eq a b

theorem alu_remu64 (a b : Word) : alu .remu64 a b = a % b := remUnsigned_eq a b

theorem alu_div32 (a b : Word) : alu .div32 a b =
    (if b.setWidth 32 = 0 then BitVec.allOnes 32 else (a.setWidth 32).sdiv (b.setWidth 32)).signExtend 64 :=
  congrArg ext32 (divSigned_eq (low32 a) (low32 b))

theorem alu_rem32 (a b : Word) : alu .rem32 a b =
    (if b.setWidth 32 = 0 then a.setWidth 32 else (a.setWidth 32).srem (b.setWidth 32)).signExtend 64 :=
  congrArg ext32 (remSigned_eq (low32 a) (low32 b))

theorem alu_divu32 (a b : Word) : alu .divu32 a b =
    (if b.setWidth 32 = 0 then BitVec.allOnes 32 else a.setWidth 32 / b.setWidth 32).signExtend 64 :=
  congrArg ext32 (divUnsigned_eq (low32 a) (low32 b))

theorem alu_remu32 (a b : Word) : alu .remu32 a b = (a.setWidth 32 % b.setWidth 32).signExtend 64 :=
  congrArg ext32 (remUnsigned_eq (low32 a) (low32 b))

/-! ## What a record's word selects (R118, R120, R213) -/

theorem encode_eq {i : Instr} {r : Record} (h : i.record = r) : encode i = r.word := congrArg Record.word h

section
variable {s : State} (h : s.cfg.isa = .mips64l) (opcode : BitVec 6) (rs rt rd : RegIx) (shamt : BitVec 5) (funct : BitVec 6)
  (imm16 : BitVec 16)
include h

theorem readSlot1_mipsR : readSlot1 s (.mipsR opcode rs rt rd shamt funct) (Record.mipsR opcode rs rt rd shamt funct).word =
    s.readX rs := by simp [readSlot1, hasSlot1, h]

theorem readSlot2_mipsR : readSlot2 s (.mipsR opcode rs rt rd shamt funct) (Record.mipsR opcode rs rt rd shamt funct).word =
    s.readX rt := by simp [readSlot2, hasSlot2, h]

theorem readSlot1_mipsI : readSlot1 s (.mipsI opcode rs rt imm16) (Record.mipsI opcode rs rt imm16).word = s.readX rs := by
  simp [readSlot1, hasSlot1, h]

theorem readSlot2_mipsI : readSlot2 s (.mipsI opcode rs rt imm16) (Record.mipsI opcode rs rt imm16).word = s.readX rt := by
  simp [readSlot2, hasSlot2, h]

end

section
variable {s : State} (h : s.cfg.isa = .rv64l) (funct7 : BitVec 7) (rs2 rs1 : RegIx) (funct3 : BitVec 3) (rd : RegIx)
  (opcode : BitVec 7) (imm12 : BitVec 12) (imm7 : BitVec 7) (imm5 : BitVec 5)
include h

theorem readSlot1_rvR : readSlot1 s (.rvR funct7 rs2 rs1 funct3 rd opcode) (Record.rvR funct7 rs2 rs1 funct3 rd opcode).word =
    s.readX rs1 := by simp [readSlot1, hasSlot1, h]

theorem readSlot2_rvR : readSlot2 s (.rvR funct7 rs2 rs1 funct3 rd opcode) (Record.rvR funct7 rs2 rs1 funct3 rd opcode).word =
    s.readX rs2 := by simp [readSlot2, hasSlot2, h]

theorem readSlot1_rvI : readSlot1 s (.rvI imm12 rs1 funct3 rd opcode) (Record.rvI imm12 rs1 funct3 rd opcode).word =
    s.readX rs1 := by simp [readSlot1, hasSlot1, h]

theorem readSlot1_rvS : readSlot1 s (.rvS imm7 rs2 rs1 funct3 imm5 opcode)
    (Record.rvS imm7 rs2 rs1 funct3 imm5 opcode).word = s.readX rs1 := by simp [readSlot1, hasSlot1, h]

theorem readSlot2_rvS : readSlot2 s (.rvS imm7 rs2 rs1 funct3 imm5 opcode)
    (Record.rvS imm7 rs2 rs1 funct3 imm5 opcode).word = s.readX rs2 := by simp [readSlot2, hasSlot2, h]

theorem readSlot1_rvB : readSlot1 s (.rvB imm7 rs2 rs1 funct3 imm5 opcode)
    (Record.rvB imm7 rs2 rs1 funct3 imm5 opcode).word = s.readX rs1 := by simp [readSlot1, hasSlot1, h]

theorem readSlot2_rvB : readSlot2 s (.rvB imm7 rs2 rs1 funct3 imm5 opcode)
    (Record.rvB imm7 rs2 rs1 funct3 imm5 opcode).word = s.readX rs2 := by simp [readSlot2, hasSlot2, h]

end

section
variable (opcode : BitVec 6) (rs rt : RegIx) (imm16 : BitVec 16)

theorem immGen_iSigned_mipsI :
    immGen .mips64l .iSigned (Record.mipsI opcode rs rt imm16).word = imm16.signExtend 64 := by simp [immGen, immGenMips]

theorem immGen_iUnsigned_mipsI :
    immGen .mips64l .iUnsigned (Record.mipsI opcode rs rt imm16).word = imm16.setWidth 64 := by simp [immGen, immGenMips]

theorem immGen_upper_mipsI :
    immGen .mips64l .upper (Record.mipsI opcode rs rt imm16).word = sext32 (imm16.setWidth 64 <<< 16) := by
  have happend : imm16 ++ 0#16 = (imm16.setWidth 64 <<< 16).setWidth 32 := by
    apply BitVec.eq_of_toNat_eq
    rw [BitVec.toNat_append]
    simp [Nat.shiftLeft_eq]
    omega
  rw [immGen, immGenMips, word_mipsI_imm16, happend, sext32]

end

section
variable (imm12 : BitVec 12) (imm20 : BitVec 20) (imm7 : BitVec 7) (imm5 : BitVec 5) (rs2 rs1 rd : RegIx) (funct3 : BitVec 3)
  (opcode : BitVec 7)

theorem immGen_iSigned_rvI :
    immGen .rv64l .iSigned (Record.rvI imm12 rs1 funct3 rd opcode).word = imm12.signExtend 64 := by simp [immGen, immGenRv]

theorem immGen_upper_rvU :
    immGen .rv64l .upper (Record.rvU imm20 rd opcode).word = (imm20 ++ 0#12).signExtend 64 := by simp [immGen, immGenRv]

theorem immGen_s_rvS :
    immGen .rv64l .s (Record.rvS imm7 rs2 rs1 funct3 imm5 opcode).word = (imm7 ++ imm5).signExtend 64 := by
  simp [immGen, immGenRv]

theorem immGen_b_rvB :
    immGen .rv64l .b (Record.rvB imm7 rs2 rs1 funct3 imm5 opcode).word =
      (imm7.extractLsb' 6 1 ++ imm5.extractLsb' 0 1 ++ imm7.extractLsb' 0 6 ++ imm5.extractLsb' 1 4 ++ 0#1).signExtend 64 := by
  simp [immGen, immGenRv]

theorem immGen_j_rvJ :
    immGen .rv64l .j (Record.rvJ imm20 rd opcode).word =
      (imm20.extractLsb' 19 1 ++ imm20.extractLsb' 0 8 ++ imm20.extractLsb' 8 1 ++ imm20.extractLsb' 9 10 ++
        0#1).signExtend 64 := by
  simp [immGen, immGenRv]

end

/-! ## The shapes of operands -/

section
variable {i : Instr} {s : State} {op1 : Op1Src} {op2 : Op2Src} {form : ImmForm} {op : AluOp} {dst : RegDst} {rd : RegIx}
  {v : Word}

/-- R221, R237: an instruction whose vectors select two operands, an ALU operation and a destination. -/
theorem computes_of_alu
    (hv : vectors i =
      { cs := { op1Src := op1, op2Src := op2, immForm := form, aluOp := op, regDst := dst, regWrite := true } })
    (hrd : wbIndexOf s.cfg.isa dst (encode i) = rd)
    (hval : alu op (selectOp1 op1 (readSlot1 s i.record (encode i)) (readSlot2 s i.record (encode i)) s.pc)
      (selectOp2 op2 (readSlot2 s i.record (encode i)) (immGen s.cfg.isa form (encode i))) = v) : Computes i s rd v := by
  apply writesFrom_of_vectors <;> rw [hv]
  case hrd => exact hrd
  case hv => exact hval
  case hn => exact runNext_of_noBranch rfl rfl rfl

/-- R237: an instruction that writes its immediate. -/
theorem computes_of_imm (hv : vectors i = { cs := { immForm := form, wbSrc := .imm, regDst := dst, regWrite := true } })
    (hrd : wbIndexOf s.cfg.isa dst (encode i) = rd) (hval : immGen s.cfg.isa form (encode i) = v) : Computes i s rd v := by
  apply writesFrom_of_vectors <;> rw [hv]
  case hrd => exact hrd
  case hv => exact hval
  case hn => exact runNext_of_noBranch rfl rfl rfl

end

section
variable {i : Instr} {s : State} {op : AluOp} {v : Word} (hisa : s.cfg.isa = .mips64l)
include hisa

theorem computes_mipsR {opcode : BitVec 6} {rs rt rd : RegIx} {shamt : BitVec 5} {funct : BitVec 6}
    (hr : i.record = .mipsR opcode rs rt rd shamt funct) (hv : vectors i = { cs := { aluOp := op, regWrite := true } })
    (hval : alu op (s.readX rs) (s.readX rt) = v) : Computes i s rd v := by
  refine computes_of_alu hv ?_ ?_ <;> rw [encode_eq hr]
  · rw [hisa]; exact slotd_mipsR ..
  · rwa [hr, readSlot1_mipsR hisa, readSlot2_mipsR hisa]

theorem computes_mipsR_shift {opcode : BitVec 6} {rs rt rd : RegIx} {shamt : BitVec 5} {funct : BitVec 6}
    (hr : i.record = .mipsR opcode rs rt rd shamt funct)
    (hv : vectors i = { cs := { op1Src := .rs2, aluOp := op, regWrite := true } })
    (hval : alu op (s.readX rt) (s.readX rt) = v) : Computes i s rd v := by
  refine computes_of_alu hv ?_ ?_ <;> rw [encode_eq hr]
  · rw [hisa]; exact slotd_mipsR ..
  · rwa [hr, readSlot1_mipsR hisa, readSlot2_mipsR hisa]

theorem computes_mipsI {opcode : BitVec 6} {rs rt : RegIx} {imm16 : BitVec 16} {form : ImmForm} {imm : Word}
    (hr : i.record = .mipsI opcode rs rt imm16)
    (hv : vectors i = { cs := { op2Src := .imm, immForm := form, aluOp := op, regDst := .rs2Slot, regWrite := true } })
    (himm : immGen .mips64l form (Record.mipsI opcode rs rt imm16).word = imm)
    (hval : alu op (s.readX rs) imm = v) : Computes i s rt v := by
  refine computes_of_alu hv ?_ ?_ <;> rw [encode_eq hr]
  · rw [hisa]; exact slot2_mipsI ..
  · rwa [hr, readSlot1_mipsI hisa, readSlot2_mipsI hisa, hisa, himm]

end

section
variable {i : Instr} {s : State} {op : AluOp} {v : Word} (hisa : s.cfg.isa = .rv64l)
include hisa

theorem computes_rvR {funct7 : BitVec 7} {rs2 rs1 rd : RegIx} {funct3 : BitVec 3} {opcode : BitVec 7}
    (hr : i.record = .rvR funct7 rs2 rs1 funct3 rd opcode) (hv : vectors i = { cs := { aluOp := op, regWrite := true } })
    (hval : alu op (s.readX rs1) (s.readX rs2) = v) : Computes i s rd v := by
  refine computes_of_alu hv ?_ ?_ <;> rw [encode_eq hr]
  · rw [hisa]; exact slotd_rvR ..
  · rwa [hr, readSlot1_rvR hisa, readSlot2_rvR hisa]

theorem computes_rvI {imm12 : BitVec 12} {rs1 rd : RegIx} {funct3 : BitVec 3} {opcode : BitVec 7}
    (hr : i.record = .rvI imm12 rs1 funct3 rd opcode)
    (hv : vectors i = { cs := { op2Src := .imm, aluOp := op, regWrite := true } })
    (hval : alu op (s.readX rs1) (imm12.signExtend 64) = v) : Computes i s rd v := by
  refine computes_of_alu hv ?_ ?_ <;> rw [encode_eq hr]
  · rw [hisa]; exact slotd_rvI ..
  · rwa [hr, readSlot1_rvI hisa, hisa, selectOp2, immGen_iSigned_rvI]

end

/-! ## The instructions of MIPS64L (spec/41_mips_integer.md) -/

/-- Settles O32: each is its ALU operation on the two registers. -/
theorem mipsArithmetic : Obligations.MipsArithmetic := by
  intro s h rs rt rd shamt
  exact ⟨computes_mipsR h rfl rfl (alu_add32 ..), computes_mipsR h rfl rfl (alu_add32 ..),
    computes_mipsR h rfl rfl (alu_sub32 ..), computes_mipsR h rfl rfl (alu_sub32 ..),
    computes_mipsR h rfl rfl (alu_mul32 ..), computes_mipsR h rfl rfl (alu_mul32 ..),
    computes_mipsR h rfl rfl (alu_mulh32 ..), computes_mipsR h rfl rfl (alu_mulhu32 ..),
    computes_mipsR h rfl rfl rfl, computes_mipsR h rfl rfl rfl, computes_mipsR h rfl rfl rfl, computes_mipsR h rfl rfl rfl,
    computes_mipsR h rfl rfl (alu_mul64 ..), computes_mipsR h rfl rfl (alu_mul64 ..),
    computes_mipsR h rfl rfl (alu_mulh64 ..), computes_mipsR h rfl rfl (alu_mulhu64 ..)⟩

/-- Settles O33: likewise, with the special cases of the ALU's division. -/
theorem mipsDivision : Obligations.MipsDivision := by
  intro s h rs rt rd
  exact ⟨computes_mipsR h rfl rfl (alu_div32 ..), computes_mipsR h rfl rfl (alu_rem32 ..),
    computes_mipsR h rfl rfl (alu_divu32 ..), computes_mipsR h rfl rfl (alu_remu32 ..),
    computes_mipsR h rfl rfl (alu_div64 ..), computes_mipsR h rfl rfl (alu_rem64 ..),
    computes_mipsR h rfl rfl (alu_divu64 ..), computes_mipsR h rfl rfl (alu_remu64 ..)⟩

/-- Settles O34: likewise. -/
theorem mipsLogicAndCompare : Obligations.MipsLogicAndCompare := by
  intro s h rs rt rd shamt
  exact ⟨computes_mipsR h rfl rfl rfl, computes_mipsR h rfl rfl rfl, computes_mipsR h rfl rfl rfl,
    computes_mipsR h rfl rfl rfl, computes_mipsR h rfl rfl (alu_slt ..), computes_mipsR h rfl rfl (alu_sltu ..)⟩

/-- R190: a five-bit amount in the six bits of a doubleword shift. -/
theorem toNat_setWidth_six (sa : BitVec 5) : (sa.setWidth 6).toNat = sa.toNat := BitVec.toNat_setWidth_of_le (by decide)

theorem toNat_setWidth_six_add (sa : BitVec 5) : (sa.setWidth 6 + 32).toNat = sa.toNat + 32 := by
  rw [BitVec.toNat_add, toNat_setWidth_six]
  exact Nat.mod_eq_of_lt (show sa.toNat + 32 < 64 by have := sa.isLt; omega)

/-- Settles O35: the shifted register is the second operand's, and the amount stands in the operation. -/
theorem mipsShifts : Obligations.MipsShifts := by
  intro s h rs rt rd sa
  refine ⟨computes_mipsR_shift h rfl rfl (alu_sll32 ..), computes_mipsR_shift h rfl rfl rfl,
    computes_mipsR_shift h rfl rfl (alu_sra32 ..), computes_mipsR_shift h rfl rfl ?dsll, computes_mipsR_shift h rfl rfl ?dsrl,
    computes_mipsR_shift h rfl rfl ?dsra, computes_mipsR_shift h rfl rfl ?dsll32, computes_mipsR_shift h rfl rfl ?dsrl32,
    computes_mipsR_shift h rfl rfl ?dsra32⟩
  case dsll | dsrl => rw [alu, toNat_setWidth_six]
  case dsra => rw [alu_sra64, toNat_setWidth_six]
  case dsll32 | dsrl32 => rw [alu, toNat_setWidth_six_add]
  case dsra32 => rw [alu_sra64, toNat_setWidth_six_add]

/-- Settles O36: the second operand is the immediate of the instruction's form. -/
theorem mipsImmediates : Obligations.MipsImmediates := by
  intro s h rs rt imm16
  refine ⟨computes_mipsI h rfl rfl (immGen_iSigned_mipsI ..) (alu_add32 ..),
    computes_mipsI h rfl rfl (immGen_iSigned_mipsI ..) (alu_add32 ..),
    computes_mipsI h rfl rfl (immGen_iSigned_mipsI ..) ?slti,
    computes_mipsI h rfl rfl (immGen_iSigned_mipsI ..) (alu_sltu ..),
    computes_mipsI h rfl rfl (immGen_iUnsigned_mipsI ..) rfl, computes_mipsI h rfl rfl (immGen_iUnsigned_mipsI ..) rfl,
    computes_mipsI h rfl rfl (immGen_iUnsigned_mipsI ..) rfl, ?lui,
    computes_mipsI h rfl rfl (immGen_iSigned_mipsI ..) rfl, computes_mipsI h rfl rfl (immGen_iSigned_mipsI ..) rfl⟩
  case slti => rw [alu_slt, BitVec.toInt_signExtend_of_le (by decide)]
  case lui =>
    refine computes_of_imm rfl ?_ ?_ <;> rw [h]
    · exact slot2_mipsI ..
    · exact immGen_upper_mipsI ..

/-! ## The instructions of RV64L (spec/44_rv_integer.md) -/

/-- Settles O43: likewise; `auipc` adds to its own pc. -/
theorem rvImmediates : Obligations.RvImmediates := by
  intro s h imm12 imm20 rs1 rd
  refine ⟨?lui, ?auipc, computes_rvI h rfl rfl rfl, computes_rvI h rfl rfl ?slti, computes_rvI h rfl rfl (alu_sltu ..),
    computes_rvI h rfl rfl rfl, computes_rvI h rfl rfl rfl, computes_rvI h rfl rfl rfl, computes_rvI h rfl rfl (alu_add32 ..)⟩
  case lui =>
    refine computes_of_imm rfl ?_ ?_ <;> rw [h]
    · exact slotd_rvU ..
    · exact immGen_upper_rvU ..
  case auipc =>
    refine computes_of_alu rfl ?_ ?_ <;> rw [h]
    · exact slotd_rvU ..
    · exact congrArg (s.pc + ·) (immGen_upper_rvU ..)
  case slti => rw [alu_slt, BitVec.toInt_signExtend_of_le (by decide)]

/-- Settles O44: the immediate shifts have their amount in the operation, the register shifts in the second operand. -/
theorem rvRegisterOperations : Obligations.RvRegisterOperations := by
  intro s h
  refine ⟨fun sh shw rs2 rs1 rd => ?shifts, fun rs2 rs1 rd => ?registers⟩
  case shifts =>
    exact ⟨computes_rvI h rfl rfl rfl, computes_rvI h rfl rfl rfl, computes_rvI h rfl rfl (alu_sra64 ..),
      computes_rvI h rfl rfl (alu_sll32 ..), computes_rvI h rfl rfl rfl, computes_rvI h rfl rfl (alu_sra32 ..),
      computes_rvR h rfl rfl (alu_sllV64 ..), computes_rvR h rfl rfl (alu_srlV64 ..), computes_rvR h rfl rfl (alu_sraV64 ..),
      computes_rvR h rfl rfl (alu_sllV32 ..), computes_rvR h rfl rfl (alu_srlV32 ..), computes_rvR h rfl rfl (alu_sraV32 ..)⟩
  case registers =>
    exact ⟨computes_rvR h rfl rfl rfl, computes_rvR h rfl rfl rfl, computes_rvR h rfl rfl (alu_slt ..),
      computes_rvR h rfl rfl (alu_sltu ..), computes_rvR h rfl rfl rfl, computes_rvR h rfl rfl rfl,
      computes_rvR h rfl rfl rfl, computes_rvR h rfl rfl (alu_add32 ..), computes_rvR h rfl rfl (alu_sub32 ..)⟩

/-- Settles O45: likewise. -/
theorem rvMultiplyDivide : Obligations.RvMultiplyDivide := by
  intro s h rs2 rs1 rd
  exact ⟨computes_rvR h rfl rfl (alu_mul64 ..), computes_rvR h rfl rfl (alu_mulh64 ..),
    computes_rvR h rfl rfl (alu_mulhsu64 ..), computes_rvR h rfl rfl (alu_mulhu64 ..),
    computes_rvR h rfl rfl (alu_mul32 ..), computes_rvR h rfl rfl (alu_div64 ..), computes_rvR h rfl rfl (alu_divu64 ..),
    computes_rvR h rfl rfl (alu_rem64 ..), computes_rvR h rfl rfl (alu_remu64 ..), computes_rvR h rfl rfl (alu_div32 ..),
    computes_rvR h rfl rfl (alu_divu32 ..), computes_rvR h rfl rfl (alu_rem32 ..), computes_rvR h rfl rfl (alu_remu32 ..)⟩

end Sys2Proof.Machine
end

section
/-! PROOFS. The loads, stores, branches and jumps (spec/42_mips_memory_control.md, spec/45_rv_memory_control.md) and the
coprocessor's loads, stores and moves (spec/43_mips_cop1.md, spec/46_rv_fp.md): the effect of a run with any coprocessor
vector, then each instruction by its operands. -/

namespace Sys2Proof.Machine

/-! ## The effect of a run that raises nothing before Writeback -/

section
variable {i : Instr} {s : State} {fr d : Word} {cr c : Bool} {md next : Word}
  (hf : runFpu s (encode i) (vectors i) = .ok fr) (hc : runCmp s (encode i) (vectors i) = .ok cr)
  (hl : runLoad s i.record (encode i) (vectors i) = .ok md) (hmw : (vectors i).cs.memWrite = .noWrite)
  (hh : (vectors i).cs.halt = false)
  (hd : dataAfterMemory (vectors i).cs.memRead (vectors i).fs (runData s i.record (encode i) (vectors i) fr cr) md = d)
  (hcc : (if (vectors i).fs.ccWrite then cr else s.cc) = c) (hn : runNext s i.record (encode i) (vectors i) = next)

theorem storeValue_noWrite {k : MemWriteKind} (h : k = .noWrite) (a v : Word) :
    storeValue s k a v = .ok { s with mem := s.mem } :=
  if_pos h

include hf hc hl hmw hh hd hcc hn

/-- R236, R238: a run that writes a general register and no floating-point register. -/
theorem writesFrom_of_run {rd : RegIx} {v : Word} (hw : (vectors i).cs.regWrite = true)
    (hfw : (vectors i).fs.fpuRegWrite = false)
    (hrd : wbIndexOf s.cfg.isa (vectors i).cs.regDst (encode i) = rd)
    (hv : wbDataOf (vectors i).cs (vectors i).fs d (runAlu s i.record (encode i) (vectors i)) md
      (runImm s (encode i) (vectors i)) s.pc = v) :
    WritesFrom i s { s with cc := c, data := d } { s with data := d } rd v next := by
  have hs := storeValue_noWrite (s := s) hmw (runAddr s i.record (encode i) (vectors i))
    (runStored s i.record (encode i) (vectors i) fr cr)
  have hv' : runValue s i.record (encode i) (vectors i) fr cr md = v := by rw [runValue, hd, hv]
  refine ⟨fun hx hp => ?_, fun hx => ?_, fun hx hp => ?_⟩
  · obtain ⟨L, h⟩ := runWord_completes hf hc hl hs (fun _ => by rwa [hrd, hv']) (by rwa [hn])
    refine ⟨L, ?_⟩
    rw [exec_eq, h]
    simp only [runEnd, hw, hh, hfw, hd, hcc, hv', hrd, hn, if_true]
    congr 1
    simp only [State.setX]
    split <;> rfl
  · obtain ⟨L, h⟩ := runWord_raises_writeback hf hc hl hs (Or.inl ⟨hw, by rwa [hrd, hv'], rfl⟩)
    exact ⟨L, by rw [exec_eq, h, hrd, hv', hd]⟩
  · obtain ⟨L, h⟩ := runWord_raises_writeback hf hc hl hs (Or.inr ⟨fun _ => by rwa [hrd, hv'], by rwa [hn], rfl⟩)
    exact ⟨L, by rw [exec_eq, h, hn, hd]⟩

/-- R238 to R240: a run that writes no general register; `f` is the floating-point file after it. -/
theorem goesTo_of_run {f : Vector Word 32} (hw : (vectors i).cs.regWrite = false)
    (hfloat : (if (vectors i).fs.fpuRegWrite then
      s.writeF (vectors i).fs.width (fpuDst s.cfg.isa (vectors i).fs.fpuRegDst (encode i))
        (fpuWbValue (vectors i).fs.fpuWbSrc fr d) else s).f = f) :
    GoesTo i s { s with f := f, cc := c, data := d } { s with data := d } next := by
  have hs := storeValue_noWrite (s := s) hmw (runAddr s i.record (encode i) (vectors i))
    (runStored s i.record (encode i) (vectors i) fr cr)
  have hnw {P : Prop} (h : (vectors i).cs.regWrite = true) : P := absurd (hw.symm.trans h) Bool.false_ne_true
  refine ⟨fun hp => ?_, fun hp => ?_⟩
  · obtain ⟨L, h⟩ := runWord_completes hf hc hl hs hnw (by rwa [hn])
    refine ⟨L, ?_⟩
    rw [exec_eq, h]
    simp only [runEnd, runFloat, hw, hh, hd, hcc, hfloat, hn]
    rfl
  · obtain ⟨L, h⟩ := runWord_raises_writeback hf hc hl hs (Or.inr ⟨hnw, by rwa [hn], rfl⟩)
    exact ⟨L, by rw [exec_eq, h, hn, hd]⟩

end

section
variable {i : Instr} {s : State} {a : Word} {n : Nat}

/-- R84, R231, R704: a run of the main unit that loads a general register. -/
theorem loads_of_vectors {k : MemReadKind} {dst : RegDst} {rd : RegIx} {ext : BitVec (8 * n) → Word}
    (hv : vectors i =
      { cs := { op2Src := .imm, aluOp := .add64, memRead := k, wbSrc := .mem, regDst := dst, regWrite := true } })
    (hk : k ≠ .noRead) (hn : k.width = n) (hrd : wbIndexOf s.cfg.isa dst (encode i) = rd)
    (ha : runAddr s i.record (encode i) (vectors i) = a) (hext : ext (loadedBits s a n) = loadedValue s k a) :
    Loads i s rd a n ext := by
  have hfs : (vectors i).fs = fs0 := by rw [hv]
  have hmr : (vectors i).cs.memRead = k := by rw [hv]
  have hf := runFpu_inert (s := s) hfs
  have hc := runCmp_inert (s := s) hfs
  subst hn
  refine ⟨fun hr => ?_, fun hr => ?_⟩
  · have hl : runLoad s i.record (encode i) (vectors i) = .ok (loadedValue s k a) := by
      rw [runLoad, ha, hmr]
      exact loadValue_ok fun _ => hr
    have hd : dataAfterMemory (vectors i).cs.memRead (vectors i).fs (runData s i.record (encode i) (vectors i) 0 false)
        (loadedValue s k a) = s.data := by rw [dataAfterMemory_inert _ _ hfs, runData_inert hfs]
    rw [hext]
    apply writesFrom_of_run hf hc hl (hd := hd) <;> rw [hv]
    case hcc | hfw => rfl
    case hn => exact runNext_of_noBranch rfl rfl rfl
    case hrd => exact hrd
    case hv => rfl
  · have hl : runLoad s i.record (encode i) (vectors i) = .error (.outOfBounds a k.width) := by
      rw [runLoad, ha, hmr]
      exact loadValue_error hk hr
    obtain ⟨L, h⟩ := runWord_raises_memory hf hc (.inl hl)
    exact ⟨L, by rw [exec_eq, h, runData_inert hfs]⟩

/-- R87, R232, R704: a run that stores, with `d` in the Data register after Execute. -/
theorem stores_of_run {k : MemWriteKind} {fr d v : Word} {cr : Bool}
    (hf : runFpu s (encode i) (vectors i) = .ok fr) (hc : runCmp s (encode i) (vectors i) = .ok cr)
    (hmr : (vectors i).cs.memRead = .noRead) (hmw : (vectors i).cs.memWrite = k) (hk : k ≠ .noWrite) (hn : k.width = n)
    (hw : (vectors i).cs.regWrite = false) (hh : (vectors i).cs.halt = false) (hfw : (vectors i).fs.fpuRegWrite = false)
    (hcc : (vectors i).fs.ccWrite = false) (hnext : runNext s i.record (encode i) (vectors i) = s.pc + 4)
    (ha : runAddr s i.record (encode i) (vectors i) = a) (hd : runData s i.record (encode i) (vectors i) fr cr = d)
    (hv : runStored s i.record (encode i) (vectors i) fr cr = v) : Stores i s { s with data := d } a n v := by
  have hl : runLoad s i.record (encode i) (vectors i) = .ok 0 := if_pos hmr
  subst hn
  refine ⟨fun hr hp => ?_, fun hr => ?_⟩
  · obtain ⟨m, hm, -, hstored⟩ := storeValue_ok (s := s) (v := v) (fun _ : k ≠ .noWrite => hr)
    have hdm : dataAfterMemory (vectors i).cs.memRead (vectors i).fs d 0 = d := if_neg fun h => h.1 hmr
    obtain ⟨L, h⟩ := runWord_completes hf hc hl (by rwa [hmw, ha, hv])
      (fun h => absurd (hw.symm.trans h) Bool.false_ne_true) (by rwa [hnext])
    refine ⟨m, ⟨L, ?_⟩, hstored hk⟩
    rw [exec_eq, h]
    simp only [runEnd, hw, hh, hfw, hcc, hd, hdm, hnext]
    rfl
  · obtain ⟨L, h⟩ := runWord_raises_memory hf hc (.inr ⟨⟨_, hl⟩, by rw [hmw, ha, hv]; exact storeValue_outOfBounds hk hr⟩)
    exact ⟨L, by rw [exec_eq, h, hd]⟩

/-- R232: a run of the main unit that stores its second register. -/
theorem stores_of_vectors {k : MemWriteKind} {form : ImmForm} {v : Word}
    (hvec : vectors i = { cs := { op2Src := .imm, immForm := form, aluOp := .add64, memWrite := k } })
    (hk : k ≠ .noWrite) (hn : k.width = n) (ha : runAddr s i.record (encode i) (vectors i) = a)
    (hv : readSlot2 s i.record (encode i) = v) : Stores i s s a n v := by
  have hfs : (vectors i).fs = fs0 := by rw [hvec]
  refine stores_of_run (runFpu_inert hfs) (runCmp_inert hfs) (hk := hk) (hn := hn) (ha := ha) (hd := runData_inert hfs)
    ?_ ?_ ?_ ?_ ?noFloat ?noCc ?next ?stored <;> rw [hvec]
  case noFloat | noCc => rfl
  case next => exact runNext_of_noBranch rfl rfl rfl
  case stored => exact hv

end

/-! ## The shapes of operands -/

section
variable {i : Instr} {s : State} (hisa : s.cfg.isa = .mips64l) {opcode : BitVec 6} {rs rt : RegIx} {imm16 : BitVec 16}
  (hr : i.record = .mipsI opcode rs rt imm16)
include hisa hr

theorem runAddr_mipsI (hop : (vectors i).cs.op1Src = .rs1) (hform : (vectors i).cs.immForm = .iSigned) :
    runAddr s i.record (encode i) (vectors i) = s.readX rs + imm16.signExtend 64 := by
  rw [runAddr, runOp1, runImm, hop, hform, encode_eq hr, hr, hisa, immGen_iSigned_mipsI, selectOp1, readSlot1_mipsI hisa]

theorem loads_mipsI {k : MemReadKind} {n : Nat} {ext : BitVec (8 * n) → Word}
    (hv : vectors i =
      { cs := { op2Src := .imm, aluOp := .add64, memRead := k, wbSrc := .mem, regDst := .rs2Slot, regWrite := true } })
    (hk : k ≠ .noRead) (hn : k.width = n)
    (hext : ext (loadedBits s (s.readX rs + imm16.signExtend 64) n) = loadedValue s k (s.readX rs + imm16.signExtend 64)) :
    Loads i s rt (s.readX rs + imm16.signExtend 64) n ext := by
  refine loads_of_vectors hv hk hn ?_ (runAddr_mipsI hisa hr (by rw [hv]) (by rw [hv])) hext
  rw [encode_eq hr, hisa]
  exact slot2_mipsI ..

theorem stores_mipsI {k : MemWriteKind} {n : Nat}
    (hv : vectors i = { cs := { op2Src := .imm, aluOp := .add64, memWrite := k } }) (hk : k ≠ .noWrite) (hn : k.width = n) :
    Stores i s s (s.readX rs + imm16.signExtend 64) n (s.readX rt) := by
  refine stores_of_vectors hv hk hn (runAddr_mipsI hisa hr (by rw [hv]) (by rw [hv])) ?_
  rw [encode_eq hr, hr, readSlot2_mipsI hisa]

end

section
variable {i : Instr} {s : State} (hisa : s.cfg.isa = .rv64l) {rs2 rs1 rd : RegIx} {imm12 : BitVec 12} {funct3 : BitVec 3}
  {opcode : BitVec 7} {imm7 : BitVec 7} {imm5 : BitVec 5}
include hisa

theorem runAddr_rvI (hr : i.record = .rvI imm12 rs1 funct3 rd opcode) (hop : (vectors i).cs.op1Src = .rs1)
    (hform : (vectors i).cs.immForm = .iSigned) :
    runAddr s i.record (encode i) (vectors i) = s.readX rs1 + imm12.signExtend 64 := by
  rw [runAddr, runOp1, runImm, hop, hform, encode_eq hr, hr, hisa, immGen_iSigned_rvI, selectOp1, readSlot1_rvI hisa]

theorem runAddr_rvS (hr : i.record = .rvS imm7 rs2 rs1 funct3 imm5 opcode) (hop : (vectors i).cs.op1Src = .rs1)
    (hform : (vectors i).cs.immForm = .s) :
    runAddr s i.record (encode i) (vectors i) = s.readX rs1 + (imm7 ++ imm5).signExtend 64 := by
  rw [runAddr, runOp1, runImm, hop, hform, encode_eq hr, hr, hisa, immGen_s_rvS, selectOp1, readSlot1_rvS hisa]

theorem loads_rvI (hr : i.record = .rvI imm12 rs1 funct3 rd opcode) {k : MemReadKind} {n : Nat} {ext : BitVec (8 * n) → Word}
    (hv : vectors i = { cs := { op2Src := .imm, aluOp := .add64, memRead := k, wbSrc := .mem, regWrite := true } })
    (hk : k ≠ .noRead) (hn : k.width = n)
    (hext : ext (loadedBits s (s.readX rs1 + imm12.signExtend 64) n) =
      loadedValue s k (s.readX rs1 + imm12.signExtend 64)) :
    Loads i s rd (s.readX rs1 + imm12.signExtend 64) n ext := by
  refine loads_of_vectors hv hk hn ?_ (runAddr_rvI hisa hr (by rw [hv]) (by rw [hv])) hext
  rw [encode_eq hr, hisa]
  exact slotd_rvI ..

theorem stores_rvS (hr : i.record = .rvS imm7 rs2 rs1 funct3 imm5 opcode) {k : MemWriteKind} {n : Nat}
    (hv : vectors i = { cs := { op2Src := .imm, immForm := .s, aluOp := .add64, memWrite := k } }) (hk : k ≠ .noWrite)
    (hn : k.width = n) : Stores i s s (s.readX rs1 + (imm7 ++ imm5).signExtend 64) n (s.readX rs2) := by
  refine stores_of_vectors hv hk hn (runAddr_rvS hisa hr (by rw [hv]) (by rw [hv])) ?_
  rw [encode_eq hr, hr, readSlot2_rvS hisa]

end

/-! ## The loads and stores -/

/-- Settles O37: each is its kind of access at the register plus the offset. -/
theorem mipsLoadsAndStores : Obligations.MipsLoadsAndStores := by
  intro s h
  refine ⟨fun base rt imm16 => ?loads, fun base rt imm16 => ?stores⟩
  case loads =>
    refine ⟨?lb, ?lbu, ?lh, ?lhu, ?lw, ?lwu, ?ld⟩ <;> exact loads_mipsI h rfl rfl (by decide) rfl rfl
  case stores =>
    refine ⟨?sb, ?sh, ?sw, ?sd⟩ <;> exact stores_mipsI h rfl rfl (by decide) rfl

/-- Settles O46: likewise. -/
theorem rvLoadsAndStores : Obligations.RvLoadsAndStores := by
  intro s h
  refine ⟨fun imm12 rs1 rd => ?loads, fun imm7 rs2 rs1 imm5 => ?stores⟩
  case loads =>
    refine ⟨?lb, ?lh, ?lw, ?ld, ?lbu, ?lhu, ?lwu⟩ <;> exact loads_rvI h rfl rfl (by decide) rfl rfl
  case stores =>
    refine ⟨?sb, ?sh, ?sw, ?sd⟩ <;> exact stores_rvS h rfl rfl (by decide) rfl

end Sys2Proof.Machine
end

section
/-! PROOFS. The branches and jumps (spec/42_mips_memory_control.md, spec/43_mips_cop1.md, spec/45_rv_memory_control.md). -/

namespace Sys2Proof.Machine

/-! ## Runs that write the pc alone -/

section
variable {i : Instr} {s : State}

/-- R226: without an operation the coprocessor's ALU answers 0. -/
theorem runFpu_of_fpuNone {w : Word32} {v : Vectors} (h : v.fs.fpuOp = .fpuNone) : runFpu s w v = .ok 0 := by
  simp [runFpu, fpuAlu, h, FpuOp.defined, fpuFunction]

theorem runCmp_of_cmpNone {w : Word32} {v : Vectors} (h : v.fs.cmpOp = .cmpNone) : runCmp s w v = .ok false := by
  simp [runCmp, comparator, h, CmpOp.defined, cmpFunction]

/-- R228, R233: without the data-write signal the Data register stays. -/
theorem data_of_not_dataWrite {r : Record} {w : Word32} {v : Vectors} {fr md : Word} {cr : Bool}
    (h : v.fs.dataWrite = false) : dataAfterMemory v.cs.memRead v.fs (runData s r w v fr cr) md = s.data := by
  simp [dataAfterMemory, runData, dataAfterExecute, h]

/-- R224, R225, R238: a run that may branch or jump and does nothing else. -/
theorem goesTo_of_control {op1 : Op1Src} {op2 : Op2Src} {form : ImmForm} {op : AluOp} {b : BranchKind} {j : JumpKind}
    {fb : FpuBranch} {next : Word}
    (hv : vectors i = { cs := { op1Src := op1, op2Src := op2, immForm := form, aluOp := op, branch := b, jump := j },
                        fs := { fpuBranch := fb } })
    (hn : runNext s i.record (encode i) (vectors i) = next) : GoesTo i s s s next := by
  refine goesTo_of_run (f := s.f) (c := s.cc) (d := s.data) (md := 0) (runFpu_of_fpuNone ?_) (runCmp_of_cmpNone ?_) ?_ ?_ ?_
    (data_of_not_dataWrite ?_) ?_ hn ?_ ?_ <;> rw [hv]
  all_goals rfl

/-- R236, R238: a run that jumps and links pc + 4. -/
theorem writesFrom_of_jump {op1 : Op1Src} {op2 : Op2Src} {form : ImmForm} {op : AluOp} {j : JumpKind} {dst : RegDst}
    {rd : RegIx} {next : Word}
    (hv : vectors i = { cs := { op1Src := op1, op2Src := op2, immForm := form, aluOp := op, jump := j, wbSrc := .pcPlus4,
                                regDst := dst, regWrite := true } })
    (hrd : wbIndexOf s.cfg.isa dst (encode i) = rd) (hn : runNext s i.record (encode i) (vectors i) = next) :
    WritesFrom i s s s rd (s.pc + 4) next := by
  refine writesFrom_of_vectors ?_ ?_ ?_ ?_ ?_ ?dst ?_ hn <;> rw [hv]
  case dst => exact hrd
  all_goals rfl

end

/-! ## The next pc (R222 to R225, R238) -/

section
variable {s : State} {r : Record} {w : Word32} {v : Vectors}

theorem runNext_of_noJump (hj : v.cs.jump = .noJump) :
    runNext s r w v = if runTaken s r w v then branchTargetOf s.cfg.isa s.pc (runImm s w v) else s.pc + 4 := by
  rw [runNext, nextPcOf, if_pos hj]

theorem runNext_jRegion (hj : v.cs.jump = .jRegion) : runNext s r w v = regionTarget s.pc w := by
  simp [runNext, nextPcOf, jumpTargetOf, hj]

theorem runNext_jReg (hj : v.cs.jump = .jReg) : runNext s r w v = readSlot1 s r w := by
  simp [runNext, nextPcOf, jumpTargetOf, hj]

theorem runNext_jAlu (hj : v.cs.jump = .jAlu) : runNext s r w v = runAlu s r w v := by
  simp [runNext, nextPcOf, jumpTargetOf, hj]

theorem runNext_jAluClr0 (hj : v.cs.jump = .jAluClr0) : runNext s r w v = runAlu s r w v &&& ~~~1#64 := by
  simp [runNext, nextPcOf, jumpTargetOf, hj, clearBit0_eq]

end

/-- R223: the region jump's target. -/
theorem regionTarget_mipsJ {i : Instr} {opcode : BitVec 6} {index : BitVec 26} (hr : i.record = .mipsJ opcode index)
    (pc : Word) :
    regionTarget pc (encode i) = (pc + 4).extractLsb' 28 36 ++ index ++ 0#2 := by
  rw [regionTarget, encode_eq hr, word_mipsJ_index]

section
variable (a b : Word)

/-- R224: the operands of an equal branch are equal when their difference is 0. -/
theorem zeroFlag_sub64 : zeroFlag (alu .sub64 a b) = decide (a = b) := by
  rw [zeroFlag, alu, beq_eq_decide]
  exact decide_eq_decide.mpr sub_eq_zero

/-- R224: a comparison's result is 0 when it does not hold. -/
theorem zeroFlag_slt : zeroFlag (alu .slt a b) = decide (b.toInt ≤ a.toInt) := by
  rw [alu_slt]
  split
  case isTrue h => exact (decide_eq_false (not_le.mpr h)).symm
  case isFalse h => exact (decide_eq_true (not_lt.mp h)).symm

theorem zeroFlag_sltu : zeroFlag (alu .sltu a b) = decide (b.toNat ≤ a.toNat) := by
  rw [alu_sltu]
  split
  case isTrue h => exact (decide_eq_false (not_le.mpr h)).symm
  case isFalse h => exact (decide_eq_true (not_lt.mp h)).symm

end

/-! ## The shapes of operands -/

section
variable {i : Instr} {s : State} {op : AluOp} {b : BranchKind} {fb : FpuBranch} {p : Prop} [Decidable p]

/-- R222, R224, R225: a branch of MIPS64L. -/
theorem goesTo_mipsI (hisa : s.cfg.isa = .mips64l) {opcode : BitVec 6} {rs rt : RegIx} {imm16 : BitVec 16}
    (hr : i.record = .mipsI opcode rs rt imm16)
    (hv : vectors i = { cs := { aluOp := op, branch := b }, fs := { fpuBranch := fb } })
    (ht : (mainTakenOf b (zeroFlag (alu op (s.readX rs) (s.readX rt))) || fpuTakenOf fb s.cc) = true ↔ p) :
    GoesTo i s s s (if p then s.pc + 4 + imm16.signExtend 64 * 4 else s.pc + 4) := by
  refine goesTo_of_control hv ?_
  rw [runNext_of_noJump (by rw [hv]), runTaken, runAlu, runOp1, runImm, hv, encode_eq hr, hr, hisa, immGen_iSigned_mipsI,
    branchTargetOf_mips64l]
  simp only [selectOp1, selectOp2, readSlot1_mipsI hisa, readSlot2_mipsI hisa, ht]

/-- R222, R224: a branch of RV64L. -/
theorem goesTo_rvB (hisa : s.cfg.isa = .rv64l) {rs2 rs1 : RegIx} {funct3 : BitVec 3} {opcode : BitVec 7} {imm7 : BitVec 7}
    {imm5 : BitVec 5} (hr : i.record = .rvB imm7 rs2 rs1 funct3 imm5 opcode)
    (hv : vectors i = { cs := { immForm := .b, aluOp := op, branch := b } })
    (ht : mainTakenOf b (zeroFlag (alu op (s.readX rs1) (s.readX rs2))) = true ↔ p) :
    GoesTo i s s s (if p then
      s.pc + (imm7.extractLsb' 6 1 ++ imm5.extractLsb' 0 1 ++ imm7.extractLsb' 0 6 ++ imm5.extractLsb' 1 4 ++ 0#1).signExtend 64
      else s.pc + 4) := by
  refine goesTo_of_control hv ?_
  rw [runNext_of_noJump (by rw [hv]), runTaken, runAlu, runOp1, runImm, hv, encode_eq hr, hr, hisa, immGen_b_rvB,
    branchTargetOf_rv64l]
  simp only [selectOp1, selectOp2, readSlot1_rvB hisa, readSlot2_rvB hisa, ht, fs0, fpuTakenOf, Bool.or_false]

end

/-! ## The branches and jumps -/

/-- Settles O38: a branch is decided by its registers or by the condition code, a jump goes to the target of its kind. -/
theorem mipsBranchesAndJumps : Obligations.MipsBranchesAndJumps := by
  intro s h rs rt rd shamt imm16 index
  refine ⟨?beq, ?bne, ?j, ?jal, ?bc1f, ?bc1t, ?jr, ?jalr⟩
  case beq => exact goesTo_mipsI h rfl rfl (by simp [mainTakenOf, fpuTakenOf, zeroFlag_sub64])
  case bne =>
    rw [← ite_not]
    exact goesTo_mipsI h rfl rfl (by simp [mainTakenOf, fpuTakenOf, zeroFlag_sub64])
  case bc1f =>
    rw [← ite_not]
    exact goesTo_mipsI h rfl rfl (by simp [mainTakenOf, fpuTakenOf])
  case bc1t => exact goesTo_mipsI h rfl rfl (by simp [mainTakenOf, fpuTakenOf])
  case j => exact goesTo_of_control rfl (by rw [runNext_jRegion rfl, regionTarget_mipsJ rfl])
  case jal =>
    exact writesFrom_of_jump rfl rfl (by rw [runNext_jRegion rfl, regionTarget_mipsJ rfl])
  case jr =>
    refine goesTo_of_control rfl ?_
    rw [runNext_jReg rfl, encode_eq rfl]
    exact readSlot1_mipsR h ..
  case jalr =>
    refine writesFrom_of_jump rfl ?_ ?_
    · rw [encode_eq rfl, h]; exact slotd_mipsR ..
    · rw [runNext_jReg rfl, encode_eq rfl]; exact readSlot1_mipsR h ..

/-- Settles O47: likewise; `jal` and `jalr` jump to the ALU's result. -/
theorem rvBranchesAndJumps : Obligations.RvBranchesAndJumps := by
  intro s h
  refine ⟨fun imm7 rs2 rs1 imm5 => ⟨?beq, ?bne, ?blt, ?bge, ?bltu, ?bgeu⟩, fun imm20 imm12 rs1 rd => ⟨?jal, ?jalr⟩⟩
  case beq => exact goesTo_rvB h rfl rfl (by simp [mainTakenOf, zeroFlag_sub64])
  case bne => exact goesTo_rvB h rfl rfl (by simp [mainTakenOf, zeroFlag_sub64])
  case blt => exact goesTo_rvB h rfl rfl (by simp [mainTakenOf, zeroFlag_slt])
  case bge => exact goesTo_rvB h rfl rfl (by simp [mainTakenOf, zeroFlag_slt])
  case bltu => exact goesTo_rvB h rfl rfl (by simp only [mainTakenOf, zeroFlag_sltu]; simp)
  case bgeu => exact goesTo_rvB h rfl rfl (by simp only [mainTakenOf, zeroFlag_sltu, decide_eq_true_eq])
  case jal =>
    refine writesFrom_of_jump rfl ?_ ?_
    · rw [encode_eq rfl, h]; exact slotd_rvJ ..
    · rw [runNext_jAlu rfl, runAlu, runImm, h, encode_eq rfl]
      exact congrArg (s.pc + ·) (immGen_j_rvJ ..)
  case jalr =>
    refine writesFrom_of_jump rfl ?_ ?_
    · rw [encode_eq rfl, h]; exact slotd_rvI ..
    · rw [runNext_jAluClr0 rfl]
      exact congrArg (· &&& ~~~1#64) (runAddr_rvI h rfl rfl rfl)

end Sys2Proof.Machine
end

section
/-! PROOFS. The coprocessor's instructions (spec/43_mips_cop1.md, spec/46_rv_fp.md): the effect of a run by its coprocessor
vector, then each instruction by its operands. -/

namespace Sys2Proof.Machine

/-! ## The coprocessor's answers (R226, R227, R706) -/

section
variable {s : State} {w : Word32} {v : Vectors}

/-- R226: an operation the source defines, or any under the completion, is computed. -/
theorem runFpu_of_completed (h : s.cfg.fpuCompletion = .ieee ∨ v.fs.fpuOp.defined = true) :
    runFpu s w v = .ok (fpuFunction v.fs.fpuOp v.fs.width v.fs.round (s.readF (faSlot s.cfg.isa w))
      (s.readF (fbSlot s.cfg.isa w)) (readFc s w)) := by
  rw [runFpu, fpuAlu, if_pos]
  rcases h with h | h <;> simp [h]

theorem runCmp_of_completed (h : s.cfg.fpuCompletion = .ieee ∨ v.fs.cmpOp.defined = true) :
    runCmp s w v = .ok (cmpFunction v.fs.cmpOp v.fs.width (s.readF (faSlot s.cfg.isa w))
      (s.readF (fbSlot s.cfg.isa w))) := by
  rw [runCmp, comparator, if_pos]
  rcases h with h | h <;> simp [h]

theorem runFpu_of_reported (h : s.cfg.fpuCompletion = .report) (hop : v.fs.fpuOp.defined = false) :
    runFpu s w v = .error (.unimplementedFpuOp (.fpu v.fs.fpuOp)) := by
  simp [runFpu, fpuAlu, h, hop]

theorem runCmp_of_reported (h : s.cfg.fpuCompletion = .report) (hop : v.fs.cmpOp.defined = false) :
    runCmp s w v = .error (.unimplementedFpuOp (.cmp v.fs.cmpOp)) := by
  simp [runCmp, comparator, h, hop]

end

/-- R237: the value a general register takes from the Data register. -/
def toGeneral (wd : FpWidth) (d : Word) : Word :=
  match wd with
  | .word => sext32 d
  | .double => d

section
variable {i : Instr} {s : State} {P : Prop}

/-- R13, R706: an instruction with an operation the source leaves open. -/
theorem whenCompleted_fpu {op : FpuOp} (hop : (vectors i).fs.fpuOp = op) (hundefined : op.defined = false)
    (h : s.cfg.fpuCompletion = .ieee → P) : WhenCompleted i s (.fpu op) P := by
  subst hop
  refine ⟨h, fun hreport => ?_⟩
  obtain ⟨L, h⟩ := runWord_raises_execute (r := i.record) (.inl (runFpu_of_reported (w := encode i) hreport hundefined))
  exact ⟨L, (exec_eq i s).trans h⟩

/-- R13, R706: an instruction with a comparison the source leaves open. -/
theorem whenCompleted_cmp {op : CmpOp} (hnone : (vectors i).fs.fpuOp = .fpuNone) (hop : (vectors i).fs.cmpOp = op)
    (hundefined : op.defined = false) (h : s.cfg.fpuCompletion = .ieee → P) : WhenCompleted i s (.cmp op) P := by
  subst hop
  refine ⟨h, fun hreport => ?_⟩
  obtain ⟨L, h⟩ := runWord_raises_execute (r := i.record)
    (.inr ⟨⟨0, runFpu_of_fpuNone hnone⟩, runCmp_of_reported (w := encode i) hreport hundefined⟩)
  exact ⟨L, (exec_eq i s).trans h⟩

/-! ## Runs by their coprocessor vector -/

/-- R239: a run that writes the coprocessor's result to a floating-point register. -/
theorem computesFloat_of_vectors {op : FpuOp} {wd : FpWidth} {m : Round} {fd : RegIx} {v : Word}
    (hv : vectors i = { fs := { fpuOp := op, width := wd, round := m, fpuRegWrite := true } })
    (hcompleted : s.cfg.fpuCompletion = .ieee ∨ op.defined = true)
    (hfd : fpuDst s.cfg.isa .fdSlot (encode i) = fd)
    (hval : fpuFunction op wd m (s.readF (faSlot s.cfg.isa (encode i))) (s.readF (fbSlot s.cfg.isa (encode i)))
      (readFc s (encode i)) = v) : ComputesFloat i s wd fd v := by
  have hf : runFpu s (encode i) (vectors i) = .ok v := by
    rw [runFpu_of_completed (by rw [hv]; exact hcompleted), hv, ← hval]
  refine goesTo_of_run (c := s.cc) (d := s.data) (md := 0) hf (runCmp_of_cmpNone ?_) ?_ ?_ ?_
    (data_of_not_dataWrite ?_) ?_ (runNext_of_noBranch ?_ ?_ ?_) ?_ ?float <;> rw [hv]
  case float => rw [← hfd]; rfl
  all_goals rfl

/-- R240: a run that writes the comparison to the condition code. -/
theorem goesTo_of_compare {op : CmpOp} {wd : FpWidth} {c : Bool}
    (hv : vectors i = { fs := { cmpOp := op, width := wd, ccWrite := true } })
    (hcompleted : s.cfg.fpuCompletion = .ieee ∨ op.defined = true)
    (hval : cmpFunction op wd (s.readF (faSlot s.cfg.isa (encode i))) (s.readF (fbSlot s.cfg.isa (encode i))) = c) :
    GoesTo i s { s with cc := c } s (s.pc + 4) := by
  have hc : runCmp s (encode i) (vectors i) = .ok c := by
    rw [runCmp_of_completed (by rw [hv]; exact hcompleted), hv, ← hval]
  refine goesTo_of_run (f := s.f) (d := s.data) (md := 0) (runFpu_of_fpuNone ?_) hc ?_ ?_ ?_
    (data_of_not_dataWrite ?_) ?_ (runNext_of_noBranch ?_ ?_ ?_) ?_ ?_ <;> rw [hv]
  all_goals rfl

/-- R228, R237: a run that writes the Data register and a general register from it. -/
theorem writesFrom_of_data {op : FpuOp} {cmp : CmpOp} {wd : FpWidth} {src : DataSrc} {ccw : Bool} {dst : RegDst} {rd : RegIx}
    {fr d v : Word} {cr c : Bool}
    (hv : vectors i = { cs := { regDst := dst, regWrite := true },
                        fs := { fpuOp := op, cmpOp := cmp, width := wd, dataSrc := src, dataWrite := true, ccWrite := ccw } })
    (hf : runFpu s (encode i) (vectors i) = .ok fr) (hc : runCmp s (encode i) (vectors i) = .ok cr)
    (hd : runData s i.record (encode i) (vectors i) fr cr = d) (hcc : (if ccw then cr else s.cc) = c)
    (hrd : wbIndexOf s.cfg.isa dst (encode i) = rd)
    (hval : toGeneral wd d = v) :
    WritesFrom i s { s with cc := c, data := d } { s with data := d } rd v (s.pc + 4) := by
  have hl : runLoad s i.record (encode i) (vectors i) = .ok 0 := if_pos (by rw [hv])
  refine writesFrom_of_run hf hc hl ?_ ?_ ?data ?cc (runNext_of_noBranch ?_ ?_ ?_) ?_ ?_ ?dst ?value <;> rw [hv]
  case data => rw [← hd, hv]; exact if_neg fun h => h.1 rfl
  case cc => exact hcc
  case dst => exact hrd
  case value => rw [← hval]; cases wd <;> rfl

/-- R228, R239: a run that brings the general register's value to the Data register and on to a floating-point register. -/
theorem goesTo_of_move {wd : FpWidth} {fdst : FpuRegDst} {fd : RegIx} {d : Word}
    (hv : vectors i = { fs := { width := wd, dataWrite := true, fpuWbSrc := .fromData, fpuRegDst := fdst,
                                fpuRegWrite := true } })
    (hd : forwarded s.cfg.isa (readSlot1 s i.record (encode i)) (readSlot2 s i.record (encode i)) = d)
    (hfd : fpuDst s.cfg.isa fdst (encode i) = fd) :
    GoesTo i s { s.writeF wd fd d with data := d } { s with data := d } (s.pc + 4) := by
  refine goesTo_of_run (c := s.cc) (md := 0) (runFpu_of_fpuNone ?_) (runCmp_of_cmpNone ?_) ?_ ?_ ?_ ?data ?_
    (runNext_of_noBranch ?_ ?_ ?_) ?_ ?float <;> rw [hv]
  case data => rw [← hd]; rfl
  case float => rw [← hfd]; rfl
  all_goals rfl

/-- R231, R233, R239: a run that loads a floating-point register through the Data register. -/
theorem goesTo_of_load {k : MemReadKind} {wd : FpWidth} {fdst : FpuRegDst} {fd : RegIx} {a : Word}
    (hv : vectors i = { cs := { op2Src := .imm, aluOp := .add64, memRead := k },
                        fs := { width := wd, dataSrc := .memData, dataWrite := true, fpuWbSrc := .fromData,
                                fpuRegDst := fdst, fpuRegWrite := true } })
    (hk : k ≠ .noRead) (ha : runAddr s i.record (encode i) (vectors i) = a)
    (hfd : fpuDst s.cfg.isa fdst (encode i) = fd) :
    (s.inRange a k.width →
      GoesTo i s { s.writeF wd fd (loadedValue s k a) with data := loadedValue s k a }
        { s with data := loadedValue s k a } (s.pc + 4)) ∧
    (¬ s.inRange a k.width → Raises i s s .memory (.outOfBounds a k.width)) := by
  have hf : runFpu s (encode i) (vectors i) = .ok 0 := runFpu_of_fpuNone (by rw [hv])
  have hc : runCmp s (encode i) (vectors i) = .ok false := runCmp_of_cmpNone (by rw [hv])
  have hmr : (vectors i).cs.memRead = k := by rw [hv]
  refine ⟨fun hr => ?_, fun hr => ?_⟩
  · have hl : runLoad s i.record (encode i) (vectors i) = .ok (loadedValue s k a) := by
      rw [runLoad, ha, hmr]
      exact loadValue_ok fun _ => hr
    refine goesTo_of_run (c := s.cc) hf hc hl ?_ ?_ ?data ?_ (runNext_of_noBranch ?_ ?_ ?_) ?_ ?float <;> rw [hv]
    case data => exact if_pos ⟨hk, rfl, rfl⟩
    case float => rw [← hfd]; rfl
    all_goals rfl
  · have hl : runLoad s i.record (encode i) (vectors i) = .error (.outOfBounds a k.width) := by
      rw [runLoad, ha, hmr]
      exact loadValue_error hk hr
    have hd : runData s i.record (encode i) (vectors i) 0 false = s.data := by rw [hv]; rfl
    obtain ⟨L, h⟩ := runWord_raises_memory hf hc (.inl hl)
    exact ⟨L, by rw [exec_eq, h, hd]⟩

/-- R228, R232: a run that stores a floating-point register through the Data register. -/
theorem stores_of_data {k : MemWriteKind} {form : ImmForm} {wd : FpWidth} {a v : Word} {n : Nat}
    (hv : vectors i = { cs := { op2Src := .imm, immForm := form, aluOp := .add64, memWrite := k, memWriteSrc := .copData },
                        fs := { width := wd, dataSrc := .fpB, dataWrite := true } })
    (hk : k ≠ .noWrite) (hn : k.width = n) (ha : runAddr s i.record (encode i) (vectors i) = a)
    (hval : s.readF (fbSlot s.cfg.isa (encode i)) = v) : Stores i s { s with data := v } a n v := by
  refine stores_of_run (runFpu_of_fpuNone ?_) (runCmp_of_cmpNone ?_) ?_ ?_ hk hn ?_ ?_ ?_ ?_ (runNext_of_noBranch ?_ ?_ ?_)
    ha ?data ?stored <;> rw [hv]
  case data | stored => rw [← hval]; rfl

end

/-! ## The shapes of operands (R119) -/

section
variable {i : Instr} {s : State} (h : s.cfg.isa = .mips64l) {opcode : BitVec 6} {rs rt rd : RegIx} {shamt : BitVec 5}
  {funct : BitVec 6} {imm16 : BitVec 16}
include h

theorem readF_faSlot_mipsR (hr : i.record = .mipsR opcode rs rt rd shamt funct) :
    s.readF (faSlot s.cfg.isa (encode i)) = s.readF rd := by rw [h, encode_eq hr, faSlot_mipsR]

theorem readF_fbSlot_mipsR (hr : i.record = .mipsR opcode rs rt rd shamt funct) :
    s.readF (fbSlot s.cfg.isa (encode i)) = s.readF rt := by rw [h, encode_eq hr, fbSlot_mipsR]

theorem readF_fbSlot_mipsI (hr : i.record = .mipsI opcode rs rt imm16) :
    s.readF (fbSlot s.cfg.isa (encode i)) = s.readF rt := by rw [h, encode_eq hr, fbSlot_mipsI]

theorem fpuDst_fdSlot_of_mipsR (hr : i.record = .mipsR opcode rs rt rd shamt funct) :
    fpuDst s.cfg.isa .fdSlot (encode i) = shamt := by rw [h, encode_eq hr, fpuDst_fdSlot_mipsR]

theorem fpuDst_fsSlot_of_mipsR (hr : i.record = .mipsR opcode rs rt rd shamt funct) :
    fpuDst s.cfg.isa .fsSlot (encode i) = rd := by rw [h, encode_eq hr, fpuDst_fsSlot_mipsR]

theorem fpuDst_ftSlot_of_mipsI (hr : i.record = .mipsI opcode rs rt imm16) :
    fpuDst s.cfg.isa .ftSlot (encode i) = rt := by rw [h, encode_eq hr, fpuDst_ftSlot_mipsI]

theorem wbIndexOf_rs2Slot_of_mipsR (hr : i.record = .mipsR opcode rs rt rd shamt funct) :
    wbIndexOf s.cfg.isa .rs2Slot (encode i) = rt := by rw [h, encode_eq hr, wbIndexOf, slot2_mipsR]

theorem forwarded_of_mipsR (hr : i.record = .mipsR opcode rs rt rd shamt funct) :
    forwarded s.cfg.isa (readSlot1 s i.record (encode i)) (readSlot2 s i.record (encode i)) = s.readX rt := by
  rw [h, encode_eq hr, hr, forwarded, readSlot2_mipsR h]

end

section
variable {i : Instr} {s : State} (h : s.cfg.isa = .rv64l) {funct7 : BitVec 7} {rs2 rs1 rd : RegIx} {funct3 : BitVec 3}
  {opcode : BitVec 7} {imm12 : BitVec 12} {imm7 : BitVec 7} {imm5 : BitVec 5} {rs3 : RegIx} {funct2 : BitVec 2}
include h

theorem readF_faSlot_rvR (hr : i.record = .rvR funct7 rs2 rs1 funct3 rd opcode) :
    s.readF (faSlot s.cfg.isa (encode i)) = s.readF rs1 := by rw [h, encode_eq hr, faSlot_rvR]

theorem readF_fbSlot_rvR (hr : i.record = .rvR funct7 rs2 rs1 funct3 rd opcode) :
    s.readF (fbSlot s.cfg.isa (encode i)) = s.readF rs2 := by rw [h, encode_eq hr, fbSlot_rvR]

theorem readF_fbSlot_rvS (hr : i.record = .rvS imm7 rs2 rs1 funct3 imm5 opcode) :
    s.readF (fbSlot s.cfg.isa (encode i)) = s.readF rs2 := by rw [h, encode_eq hr, fbSlot_rvS]

theorem readF_faSlot_rvR4 (hr : i.record = .rvR4 rs3 funct2 rs2 rs1 funct3 rd opcode) :
    s.readF (faSlot s.cfg.isa (encode i)) = s.readF rs1 := by rw [h, encode_eq hr, faSlot_rvR4]

theorem readF_fbSlot_rvR4 (hr : i.record = .rvR4 rs3 funct2 rs2 rs1 funct3 rd opcode) :
    s.readF (fbSlot s.cfg.isa (encode i)) = s.readF rs2 := by rw [h, encode_eq hr, fbSlot_rvR4]

theorem readFc_rvR4 (hr : i.record = .rvR4 rs3 funct2 rs2 rs1 funct3 rd opcode) :
    readFc s (encode i) = s.readF rs3 := by rw [readFc, h, encode_eq hr, word_rvR4_rs3]

theorem fpuDst_fdSlot_of_rvR (hr : i.record = .rvR funct7 rs2 rs1 funct3 rd opcode) :
    fpuDst s.cfg.isa .fdSlot (encode i) = rd := by rw [h, encode_eq hr, fpuDst_fdSlot_rvR]

theorem fpuDst_fdSlot_of_rvI (hr : i.record = .rvI imm12 rs1 funct3 rd opcode) :
    fpuDst s.cfg.isa .fdSlot (encode i) = rd := by rw [h, encode_eq hr, fpuDst_fdSlot_rvI]

theorem fpuDst_fdSlot_of_rvR4 (hr : i.record = .rvR4 rs3 funct2 rs2 rs1 funct3 rd opcode) :
    fpuDst s.cfg.isa .fdSlot (encode i) = rd := by rw [h, encode_eq hr, fpuDst_fdSlot_rvR4]

theorem wbIndexOf_rdSlot_of_rvR (hr : i.record = .rvR funct7 rs2 rs1 funct3 rd opcode) :
    wbIndexOf s.cfg.isa .rdSlot (encode i) = rd := by rw [h, encode_eq hr, wbIndexOf, slotd_rvR]

theorem forwarded_of_rvR (hr : i.record = .rvR funct7 rs2 rs1 funct3 rd opcode) :
    forwarded s.cfg.isa (readSlot1 s i.record (encode i)) (readSlot2 s i.record (encode i)) = s.readX rs1 := by
  rw [h, encode_eq hr, hr, forwarded, readSlot1_rvR h]

end

/-! ## The loads, stores and moves -/

/-- R231, R239: a word-width register write of a loaded word keeps all of it. -/
theorem writeF_word_loadedValue (s : State) (fd : RegIx) (a : Word) :
    s.writeF .word fd (loadedValue s .wu a) = s.setF fd (loadedValue s .wu a) :=
  congrArg (fun x : Word32 => s.setF fd (x.setWidth 64)) (setWidth_setWidth_loadedBits s a (n := 4) (by decide))

/-- Settles O39: each passes through the Data register. -/
theorem mipsCop1MemoryAndMoves : Obligations.MipsCop1MemoryAndMoves := by
  intro s h
  refine ⟨fun base ft imm16 => ?memory, fun rt fs shamt funct => ⟨?mfc1, ?dmfc1, ?mtc1, ?dmtc1⟩⟩
  case memory =>
    have hlwc1 := goesTo_of_load (i := .mipsLwc1 base ft imm16) (s := s) rfl (by decide) (runAddr_mipsI h rfl rfl rfl)
      (fpuDst_ftSlot_of_mipsI h rfl)
    have hldc1 := goesTo_of_load (i := .mipsLdc1 base ft imm16) (s := s) rfl (by decide) (runAddr_mipsI h rfl rfl rfl)
      (fpuDst_ftSlot_of_mipsI h rfl)
    rw [writeF_word_loadedValue] at hlwc1
    exact ⟨hlwc1.1, hlwc1.2, hldc1.1, hldc1.2,
      stores_of_data rfl (by decide) rfl (runAddr_mipsI h rfl rfl rfl) (readF_fbSlot_mipsI h rfl),
      stores_of_data rfl (by decide) rfl (runAddr_mipsI h rfl rfl rfl) (readF_fbSlot_mipsI h rfl)⟩
  case mfc1 | dmfc1 =>
    exact writesFrom_of_data rfl (runFpu_of_fpuNone rfl) (runCmp_of_cmpNone rfl) (readF_faSlot_mipsR h rfl) rfl
      (wbIndexOf_rs2Slot_of_mipsR h rfl) rfl
  case mtc1 =>
    exact goesTo_of_move (i := .mipsMtc1 rt fs shamt funct) (wd := .word) rfl (forwarded_of_mipsR h rfl)
      (fpuDst_fsSlot_of_mipsR h rfl)
  case dmtc1 =>
    exact goesTo_of_move (i := .mipsDmtc1 rt fs shamt funct) (wd := .double) rfl (forwarded_of_mipsR h rfl)
      (fpuDst_fsSlot_of_mipsR h rfl)

/-- Settles O48: likewise. -/
theorem rvFpMemoryAndMoves : Obligations.RvFpMemoryAndMoves := by
  intro s h
  refine ⟨fun imm12 rs1 fd imm7 fs2 imm5 => ?memory, fun fs1 rs1 rd fd => ⟨?fmvXW, ?fmvXD, ?fmvWX, ?fmvDX⟩⟩
  case memory =>
    have hflw := goesTo_of_load (i := .rvFlw imm12 rs1 fd) (s := s) rfl (by decide) (runAddr_rvI h rfl rfl rfl)
      (fpuDst_fdSlot_of_rvI h rfl)
    have hfld := goesTo_of_load (i := .rvFld imm12 rs1 fd) (s := s) rfl (by decide) (runAddr_rvI h rfl rfl rfl)
      (fpuDst_fdSlot_of_rvI h rfl)
    rw [writeF_word_loadedValue] at hflw
    exact ⟨hflw.1, hflw.2, hfld.1, hfld.2,
      stores_of_data rfl (by decide) rfl (runAddr_rvS h rfl rfl rfl) (readF_fbSlot_rvS h rfl),
      stores_of_data rfl (by decide) rfl (runAddr_rvS h rfl rfl rfl) (readF_fbSlot_rvS h rfl)⟩
  case fmvXW | fmvXD =>
    exact writesFrom_of_data rfl (runFpu_of_fpuNone rfl) (runCmp_of_cmpNone rfl) (readF_faSlot_rvR h rfl) rfl
      (wbIndexOf_rdSlot_of_rvR h rfl) rfl
  case fmvWX =>
    exact goesTo_of_move (i := .rvFmvWX rs1 fd) (wd := .word) rfl (forwarded_of_rvR h rfl) (fpuDst_fdSlot_of_rvR h rfl)
  case fmvDX =>
    exact goesTo_of_move (i := .rvFmvDX rs1 fd) (wd := .double) rfl (forwarded_of_rvR h rfl) (fpuDst_fdSlot_of_rvR h rfl)

end Sys2Proof.Machine
end

section
/-! PROOFS. The coprocessor's arithmetic and comparisons (spec/43_mips_cop1.md, spec/46_rv_fp.md): the source defines the
addition and the equality, the rest computes where it is completed and is reported where it is not. -/

namespace Sys2Proof.Machine

/-! ## The shapes of operands -/

section
variable {i : Instr} {s : State} {op : FpuOp} {wd : FpWidth} {m : Round} {v : Word}

theorem computesFloat_mipsR (h : s.cfg.isa = .mips64l) {opcode : BitVec 6} {fmt ft fs fd : RegIx} {funct : BitVec 6}
    (hr : i.record = .mipsR opcode fmt ft fs fd funct)
    (hv : vectors i = { fs := { fpuOp := op, width := wd, round := m, fpuRegWrite := true } })
    (hcompleted : s.cfg.fpuCompletion = .ieee ∨ op.defined = true)
    (hval : fpuFunction op wd m (s.readF fs) (s.readF ft) (readFc s (encode i)) = v) : ComputesFloat i s wd fd v :=
  computesFloat_of_vectors hv hcompleted (fpuDst_fdSlot_of_mipsR h hr)
    (by rw [readF_faSlot_mipsR h hr, readF_fbSlot_mipsR h hr, hval])

theorem computesFloat_rvR (h : s.cfg.isa = .rv64l) {funct7 : BitVec 7} {fs2 fs1 fd : RegIx} {funct3 : BitVec 3}
    {opcode : BitVec 7} (hr : i.record = .rvR funct7 fs2 fs1 funct3 fd opcode)
    (hv : vectors i = { fs := { fpuOp := op, width := wd, round := m, fpuRegWrite := true } })
    (hcompleted : s.cfg.fpuCompletion = .ieee ∨ op.defined = true)
    (hval : fpuFunction op wd m (s.readF fs1) (s.readF fs2) (readFc s (encode i)) = v) : ComputesFloat i s wd fd v :=
  computesFloat_of_vectors hv hcompleted (fpuDst_fdSlot_of_rvR h hr)
    (by rw [readF_faSlot_rvR h hr, readF_fbSlot_rvR h hr, hval])

theorem computesFloat_rvR4 (h : s.cfg.isa = .rv64l) {fs3 fs2 fs1 fd : RegIx} {funct2 : BitVec 2} {funct3 : BitVec 3}
    {opcode : BitVec 7} (hr : i.record = .rvR4 fs3 funct2 fs2 fs1 funct3 fd opcode)
    (hv : vectors i = { fs := { fpuOp := op, width := wd, round := m, fpuRegWrite := true } })
    (hcompleted : s.cfg.fpuCompletion = .ieee ∨ op.defined = true)
    (hval : fpuFunction op wd m (s.readF fs1) (s.readF fs2) (s.readF fs3) = v) : ComputesFloat i s wd fd v :=
  computesFloat_of_vectors hv hcompleted (fpuDst_fdSlot_of_rvR4 h hr)
    (by rw [readF_faSlot_rvR4 h hr, readF_fbSlot_rvR4 h hr, readFc_rvR4 h hr, hval])

theorem goesTo_mipsR (h : s.cfg.isa = .mips64l) {opcode : BitVec 6} {fmt ft fs shamt : RegIx} {funct : BitVec 6} {cmp : CmpOp}
    {c : Bool} (hr : i.record = .mipsR opcode fmt ft fs shamt funct)
    (hv : vectors i = { fs := { cmpOp := cmp, width := wd, ccWrite := true } })
    (hcompleted : s.cfg.fpuCompletion = .ieee ∨ cmp.defined = true)
    (hval : cmpFunction cmp wd (s.readF fs) (s.readF ft) = c) : GoesTo i s { s with cc := c } s (s.pc + 4) :=
  goesTo_of_compare hv hcompleted (by rw [readF_faSlot_mipsR h hr, readF_fbSlot_mipsR h hr, hval])

/-- R237: one bit is its own sign-extended low half. -/
theorem toGeneral_boolWord (wd : FpWidth) (c : Bool) : toGeneral wd (boolWord c) = boolWord c := by
  cases wd <;> cases c <;> rfl

theorem writesFrom_rvR_compare (h : s.cfg.isa = .rv64l) {funct7 : BitVec 7} {fs2 fs1 rd : RegIx} {funct3 : BitVec 3}
    {opcode : BitVec 7} {cmp : CmpOp} {c : Bool} (hr : i.record = .rvR funct7 fs2 fs1 funct3 rd opcode)
    (hv : vectors i = { cs := { regWrite := true },
                        fs := { cmpOp := cmp, width := wd, dataSrc := .cmpResult, dataWrite := true, ccWrite := true } })
    (hcompleted : s.cfg.fpuCompletion = .ieee ∨ cmp.defined = true)
    (hval : cmpFunction cmp wd (s.readF fs1) (s.readF fs2) = c) :
    WritesFrom i s { s with cc := c, data := boolWord c } { s with data := boolWord c } rd (boolWord c) (s.pc + 4) := by
  have hc : runCmp s (encode i) (vectors i) = .ok c := by
    rw [runCmp_of_completed (by rw [hv]; exact hcompleted), readF_faSlot_rvR h hr, readF_fbSlot_rvR h hr, hv, hval]
  exact writesFrom_of_data hv (runFpu_of_fpuNone (by rw [hv])) hc (by rw [hv]; rfl) rfl (wbIndexOf_rdSlot_of_rvR h hr)
    (toGeneral_boolWord wd c)

/-- R237, R666: a class bit is its own sign-extended low half. -/
theorem toGeneral_fpClass (wd : FpWidth) (a : Word) : toGeneral wd (fpClass wd a) = fpClass wd a := by
  have hlow : ∀ k < 10, sext32 (BitVec.ofNat 64 (2 ^ k)) = BitVec.ofNat 64 (2 ^ k) := by decide
  cases wd
  case word => exact hlow _ (fpClassBit_lt .word a)
  case double => rfl

theorem writesFrom_rvR_class (h : s.cfg.isa = .rv64l) {funct7 : BitVec 7} {fs2 fs1 rd : RegIx} {funct3 : BitVec 3}
    {opcode : BitVec 7} (hr : i.record = .rvR funct7 fs2 fs1 funct3 rd opcode)
    (hv : vectors i = { cs := { regWrite := true },
                        fs := { fpuOp := .fClass, width := wd, dataSrc := .fpuResult, dataWrite := true } })
    (hcompleted : s.cfg.fpuCompletion = .ieee) :
    WritesFrom i s { s with data := fpClass wd (s.readF fs1) } { s with data := fpClass wd (s.readF fs1) } rd
      (fpClass wd (s.readF fs1)) (s.pc + 4) := by
  have hf : runFpu s (encode i) (vectors i) = .ok (fpClass wd (s.readF fs1)) := by
    rw [runFpu_of_completed (.inl hcompleted), readF_faSlot_rvR h hr, hv]
    rfl
  exact writesFrom_of_data hv hf (runCmp_of_cmpNone (by rw [hv])) (by rw [hv]; rfl) rfl (wbIndexOf_rdSlot_of_rvR h hr)
    (toGeneral_fpClass wd _)

/-- R645: a legal `funct3` gives the vectors of its mode. -/
theorem roundedVectors_of_mem {rm : BitVec 3} {m : Round} (v : Round → Vectors)
    (h : (rm, m) ∈ [(0b000#3, Round.rne), (0b001#3, .rtz), (0b010#3, .rdn), (0b011#3, .rup), (0b100#3, .rmm),
      (0b111#3, .rne)]) : roundedVectors rm v = v m := by
  simp only [List.mem_cons, Prod.mk.injEq, List.not_mem_nil, or_false] at h
  rcases h with ⟨rfl, rfl⟩ | ⟨rfl, rfl⟩ | ⟨rfl, rfl⟩ | ⟨rfl, rfl⟩ | ⟨rfl, rfl⟩ | ⟨rfl, rfl⟩ <;> rfl

/-- R645: the operation of a rounded instruction is its own in a legal mode. -/
theorem fpuOp_of_mem {rm : BitVec 3} {m : Round} (v : Round → Vectors)
    (h : (rm, m) ∈ [(0b000#3, Round.rne), (0b001#3, .rtz), (0b010#3, .rdn), (0b011#3, .rup), (0b100#3, .rmm),
      (0b111#3, .rne)]) : (roundedVectors rm v).fs.fpuOp = (v m).fs.fpuOp := by rw [roundedVectors_of_mem v h]

end

/-! ## MIPS64L -/

/-- Settles O40: each is its operation, rounded to nearest even. -/
theorem mipsCop1Arithmetic : Obligations.MipsCop1Arithmetic := by
  intro s h ft fs fd
  refine ⟨computesFloat_mipsR h rfl rfl (.inr rfl) rfl, computesFloat_mipsR h rfl rfl (.inr rfl) rfl,
    ?subS, ?subD, ?mulS, ?mulD, ?divS, ?divD, ?sqrtS, ?sqrtD⟩
  all_goals exact whenCompleted_fpu rfl rfl fun hc => computesFloat_mipsR h rfl rfl (.inl hc) rfl

/-- Settles O41: likewise; the operands are the first two floating-point slots. -/
theorem mipsCop1Compares : Obligations.MipsCop1Compares := by
  intro s h ft fs
  refine ⟨goesTo_mipsR h rfl rfl (.inr rfl) rfl, goesTo_mipsR h rfl rfl (.inr rfl) rfl, ?ltS, ?ltD, ?leS, ?leD⟩
  all_goals exact whenCompleted_cmp rfl rfl rfl fun hc => goesTo_mipsR h rfl rfl (.inl hc) rfl

/-! ## RV64L -/

theorem decode_encode_rv64l {i : Instr} (hisa : i.isa = .rv64l) (h : i.record.instr = none) :
    decode .rv64l (encode i) = .inert i.record := hisa ▸ decode_encode_inert h

/-- Settles O49: each in the mode of its `funct3`; the secondary decode names none for 101 and 110. -/
theorem rvFpArithmetic : Obligations.RvFpArithmetic := by
  intro s h
  refine ⟨fun rm m hm fs2 fs1 fd => ?legal, fun rm hrm fs2 fs1 fd => ?inert⟩
  case legal =>
    refine ⟨computesFloat_rvR h rfl (roundedVectors_of_mem _ hm) (.inr rfl) rfl,
      computesFloat_rvR h rfl (roundedVectors_of_mem _ hm) (.inr rfl) rfl,
      ?subS, ?subD, ?mulS, ?mulD, ?divS, ?divD, ?sqrtS, ?sqrtD⟩
    all_goals
      exact whenCompleted_fpu (fpuOp_of_mem _ hm) rfl fun hc =>
        computesFloat_rvR h rfl (roundedVectors_of_mem _ hm) (.inl hc) rfl
  case inert =>
    refine ⟨?inertAddS, ?inertAddD, ?inertSubS, ?inertSubD, ?inertMulS, ?inertMulD, ?inertDivS, ?inertDivD, ?inertSqrtS,
      ?inertSqrtD⟩
    all_goals exact decode_encode_rv64l rfl (by rcases hrm with rfl | rfl <;> rfl)

/-- Settles O50: likewise, with the third operand in the R4 format. -/
theorem rvFpFused : Obligations.RvFpFused := by
  intro s h
  refine ⟨fun rm m hm fs3 fs2 fs1 fd => ?legal, fun rm hrm fs3 fs2 fs1 fd => ?inert⟩
  case legal =>
    refine ⟨?maddS, ?maddD, ?msubS, ?msubD, ?nmsubS, ?nmsubD, ?nmaddS, ?nmaddD⟩
    all_goals
      exact whenCompleted_fpu (fpuOp_of_mem _ hm) rfl fun hc =>
        computesFloat_rvR4 h rfl (roundedVectors_of_mem _ hm) (.inl hc) rfl
  case inert =>
    refine ⟨?inertMaddS, ?inertMaddD, ?inertMsubS, ?inertMsubD, ?inertNmsubS, ?inertNmsubD, ?inertNmaddS, ?inertNmaddD⟩
    all_goals exact decode_encode_rv64l rfl (by rcases hrm with rfl | rfl <;> rfl)

/-- Settles O51: each is its function of the first two slots. -/
theorem rvFpSignAndMinMax : Obligations.RvFpSignAndMinMax := by
  intro s h fs2 fs1 fd
  refine ⟨?sgnjS, ?sgnjD, ?sgnjnS, ?sgnjnD, ?sgnjxS, ?sgnjxD, ?minS, ?minD, ?maxS, ?maxD⟩
  all_goals exact whenCompleted_fpu rfl rfl fun hc => computesFloat_rvR h rfl rfl (.inl hc) rfl

/-- Settles O52: the comparison goes to the Data register as a number, and on to the general register. -/
theorem rvFpComparesAndClass : Obligations.RvFpComparesAndClass := by
  intro s h fs2 fs1 rd
  refine ⟨writesFrom_rvR_compare h rfl rfl (.inr rfl) rfl, writesFrom_rvR_compare h rfl rfl (.inr rfl) rfl,
    ?ltS, ?ltD, ?leS, ?leD, ?classS, ?classD⟩
  case ltS | ltD | leS | leD =>
    exact whenCompleted_cmp rfl rfl rfl fun hc => writesFrom_rvR_compare h rfl rfl (.inl hc) rfl
  case classS | classD => exact whenCompleted_fpu rfl rfl fun hc => writesFrom_rvR_class h rfl rfl hc

end Sys2Proof.Machine
end

section
/-! PROOFS. The floating-point formats and the square root (spec/47_fp_numerics.md R640 to R645, R663). -/

namespace Sys2Proof.Machine

/-! ## The integer square root -/

/-- The bitwise root keeps its bounds: the part found is below the root, and above it by less than the next bit's weight. -/
theorem isqrtFrom_bounds {n i r : Nat} (hlo : r * r ≤ n) (hhi : n < (r + 2 ^ i) * (r + 2 ^ i)) :
    isqrtFrom n i r * isqrtFrom n i r ≤ n ∧ n < (isqrtFrom n i r + 1) * (isqrtFrom n i r + 1) := by
  induction i generalizing r with
  | zero => exact ⟨hlo, hhi⟩
  | succ i ih =>
    rw [isqrtFrom]
    split
    case isTrue hbit => exact ih hbit (by rwa [Nat.add_assoc, ← Nat.two_mul, ← Nat.pow_succ'])
    case isFalse hbit => exact ih hlo (not_le.mp hbit)

theorem isqrt_bounds (n : Nat) : isqrt n * isqrt n ≤ n ∧ n < (isqrt n + 1) * (isqrt n + 1) := by
  refine isqrtFrom_bounds (Nat.zero_le n) ?_
  rw [Nat.zero_add, ← Nat.pow_add]
  exact Nat.lt_log2_self.trans_le (Nat.pow_le_pow_right (by decide) (by omega))

/-! ## The square root (R663) -/

section SquareRoot
variable {w : FpWidth} {rm : Round} {a : Word}

theorem fpSqrt_of_nan {t : Bool} (h : fpVal w a = .nan t) : fpSqrt w rm a = cnan w := by rw [fpSqrt, h]

theorem fpSqrt_of_inf {s : Bool} (h : fpVal w a = .inf s) : fpSqrt w rm a = if s then cnan w else fpInf w false := by
  rw [fpSqrt, h]

theorem fpSqrt_of_fin {s : Bool} {u : Nat} (h : fpVal w a = .fin s u) :
    fpSqrt w rm a = if u = 0 then fpZero w s else if s then cnan w else roundSqrt w rm (u * 2 ^ w.unitExp) := by
  rw [fpSqrt, h]

/-- R663: the root of a number of units, in units: one unit's root is that of `2^unitExp` square units. -/
theorem sqrt_units (w : FpWidth) (u : Nat) :
    √((u * 2 ^ w.unitExp : ℕ) : ℝ) / 2 ^ w.unitExp = √((u : ℝ) / 2 ^ w.unitExp) := by
  have hunit := unit_pos w
  rw [div_eq_iff hunit.ne', ← Real.sqrt_sq hunit.le, ← Real.sqrt_mul (by positivity), Real.sqrt_sq hunit.le]
  congr 1
  push_cast
  field_simp

theorem fin_value_neg_iff (w : FpWidth) (s : Bool) (u : Nat) :
    (signedUnits s u : ℚ) / 2 ^ w.unitExp < 0 ↔ s = true ∧ u ≠ 0 := by
  rw [div_lt_iff₀ (by positivity), zero_mul, Int.cast_lt_zero]
  cases s <;> simp [signedUnits, Nat.pos_iff_ne_zero]

theorem fin_value_pos_iff (w : FpWidth) (s : Bool) (u : Nat) :
    0 < (signedUnits s u : ℚ) / 2 ^ w.unitExp ↔ s = false ∧ u ≠ 0 := by
  rw [lt_div_iff₀ (by positivity), zero_mul, Int.cast_pos]
  cases s <;> simp [signedUnits, Nat.pos_iff_ne_zero]

end SquareRoot

/-- Settles O58: by the kind of the operand; a finite one has the sign and the units of its value. -/
theorem fpSquareRoot : Obligations.FpSquareRoot := by
  refine ⟨fun w rm a b c => ⟨fun t h => fpSqrt_of_nan h, fun s h => ?zero, fun h => ?inf, fun h => ?negInf, fun p hp => ?value,
    rfl⟩, isqrt_bounds⟩
  case zero =>
    rw [fpSqrt_of_fin h, if_pos rfl]
    exact isVal_fpZero w s
  case inf =>
    rw [fpSqrt_of_inf h]
    exact isVal_fpInf w false
  case negInf => exact fpSqrt_of_inf h
  case value =>
    obtain ⟨s, u, ha, rfl⟩ := fpRat_eq_some_iff.mp hp
    rw [fpSqrt_of_fin ha, fin_value_neg_iff, fin_value_pos_iff]
    refine ⟨fun ⟨hs, hu⟩ => ?_, fun ⟨hs, hu⟩ => ?_⟩
    · rw [if_neg hu, if_pos hs]
    · subst hs
      have hbounds := isqrt_bounds (u * 2 ^ w.unitExp)
      have hround := roundSqrt_rounds w rm (Nat.mul_pos (Nat.pos_of_ne_zero hu) (by positivity)) hbounds.1 hbounds.2
      rw [sqrt_units] at hround
      rw [if_neg hu, if_neg Bool.false_ne_true]
      simpa [signedUnits] using hround

/-! ## The formats (R640 to R643) -/

section Formats
variable (w : FpWidth) (v : Word)

/-- R641: the units of a finite encoding with exponent 0 are its fraction. -/
theorem unitsOf_of_exponent_zero {w : FpWidth} {mag : Nat} (h : mag / 2 ^ w.fracBits = 0) :
    unitsOf w mag = mag % 2 ^ w.fracBits := if_pos h

theorem unitsOf_of_exponent_pos {w : FpWidth} {mag : Nat} (h : 0 < mag / 2 ^ w.fracBits) :
    unitsOf w mag = (2 ^ w.fracBits + mag % 2 ^ w.fracBits) * 2 ^ (mag / 2 ^ w.fracBits - 1) := if_neg h.ne'

/-- R641: a fraction is that of a quiet NaN when its top bit is 1. -/
theorem testBit_fraction (w : FpWidth) (mag : Nat) :
    (mag % 2 ^ w.fracBits).testBit (w.precision - 2) = decide (2 ^ (w.fracBits - 1) ≤ mag % 2 ^ w.fracBits) := by
  have hlt : mag % 2 ^ w.fracBits < 2 ^ w.fracBits := Nat.mod_lt _ (by positivity)
  rw [show w.precision - 2 = w.fracBits - 1 from rfl, Nat.testBit_eq_decide_div_mod_eq, decide_eq_decide]
  cases w <;> simp only [FpWidth.fracBits] at hlt ⊢ <;> omega

/-- R641: the value of a sign and a number of units, with the unit as a power of two. -/
theorem fpRat_eq_of_units {w : FpWidth} {v : Word} {u : Nat} (h : fpMag w v < w.infMag) (hu : unitsOf w (fpMag w v) = u) :
    fpRat w v = some ((if fpSign w v then -1 else 1) * u * (2 : ℚ) ^ (w.emin - w.precision + 1)) := by
  rw [fpRat_of_fin (fpVal_eq_fin_iff.mpr ⟨h, rfl, hu⟩), emin_unitExp, zpow_neg, zpow_natCast, ← div_eq_mul_inv]
  cases fpSign w v <;> simp [signedUnits]

/-- R641: what the fields of an encoding stand for, at both widths. -/
theorem standsFor_fields : StandsFor w v (fpSign w v) (fpMag w v / 2 ^ w.fracBits) (fpMag w v % 2 ^ w.fracBits) w.expBits
    w.precision w.emin (1 - w.emin) := by
  have hsplit := fpMag_split w v
  refine ⟨fun he hf => ?zero, fun he hf => ?subnormal, fun he hlt => ?normal, fun he hf => ?inf, fun he hf => ?nan⟩
  case zero =>
    rw [he, hf, Nat.zero_mul] at hsplit
    rw [fpVal_eq_fin_iff, hsplit]
    exact ⟨infMag_pos w, rfl, unitsOf_zero w⟩
  case subnormal =>
    have hfin : fpMag w v < w.infMag := (fpMag_lt_infMag_iff w v).mpr (by rw [he]; cases w <;> decide)
    exact fpRat_eq_of_units hfin (unitsOf_of_exponent_zero he)
  case normal =>
    rw [fpRat_eq_of_units ((fpMag_lt_infMag_iff w v).mpr hlt) (unitsOf_of_exponent_pos he)]
    generalize fpMag w v / 2 ^ w.fracBits = e at he
    have hexp : (e : Int) - (1 - w.emin) - w.precision + 1 = ((e - 1 : ℕ) : Int) + (w.emin - w.precision + 1) := by omega
    rw [hexp, zpow_add₀ two_ne_zero ((e - 1 : ℕ) : Int), zpow_natCast, show w.precision - 1 = w.fracBits from rfl]
    push_cast
    ring_nf
  case inf =>
    rw [he, hf] at hsplit
    exact fpVal_eq_inf_iff.mpr ⟨hsplit, rfl⟩
  case nan =>
    rw [he] at hsplit
    have hinf : fpMag w v = w.infMag + fpMag w v % 2 ^ w.fracBits := hsplit
    rw [fpVal_eq_nan_iff, testBit_fraction, decide_eq_decide]
    omega

end Formats

/-- R640: the exponent and the fraction of a word are its bits. -/
theorem fields_word (v : Word) : fpMag .word v / 2 ^ FpWidth.word.fracBits = (v.extractLsb' 23 8).toNat ∧
    fpMag .word v % 2 ^ FpWidth.word.fracBits = (v.extractLsb' 0 23).toNat := by
  rw [fpMag_word, BitVec.extractLsb'_toNat, BitVec.extractLsb'_toNat, BitVec.extractLsb'_toNat, Nat.shiftRight_eq_div_pow,
    Nat.shiftRight_eq_div_pow, FpWidth.fracBits]
  omega

theorem fields_double (v : Word) : fpMag .double v / 2 ^ FpWidth.double.fracBits = (v.extractLsb' 52 11).toNat ∧
    fpMag .double v % 2 ^ FpWidth.double.fracBits = (v.extractLsb' 0 52).toNat := by
  rw [fpMag_double, BitVec.extractLsb'_toNat, BitVec.extractLsb'_toNat, BitVec.extractLsb'_toNat, Nat.shiftRight_eq_div_pow,
    Nat.shiftRight_eq_div_pow, FpWidth.fracBits]
  omega

/-- R643: the low half of a word is what the mask leaves. -/
theorem fpStored_word (v : Word) : fpStored .word v = v &&& 0xFFFFFFFF := by
  apply BitVec.eq_of_toNat_eq
  rw [fpStored, BitVec.toNat_setWidth_of_le (by decide), BitVec.toNat_setWidth, BitVec.toNat_and]
  exact (Nat.and_two_pow_sub_one_eq_mod v.toNat 32).symm

/-- Settles O55: the fields of a width are its bits. -/
theorem fpFormats : Obligations.FpFormats := by
  refine ⟨fun v => ⟨?word, ?double, fpSign_word v, fpSign_double v, fpMag_word v, fpMag_double v, fpStored_word v, rfl⟩,
    rfl, rfl, rfl, rfl, rfl, rfl, by decide, by decide⟩
  case word =>
    have h := standsFor_fields .word v
    rwa [fpSign_word, (fields_word v).1, (fields_word v).2] at h
  case double =>
    have h := standsFor_fields .double v
    rwa [fpSign_double, (fields_double v).1, (fields_double v).2] at h

end Sys2Proof.Machine
end
